-- ==== Sys2Proof/Word.lean ====
section
/-! DEFINITION. The word types of the Ordsel 4160 and the numbers that name its records
(spec/00_scope.md, Identifiers and Time). -/

namespace Sys2Proof

/-- A byte of shared memory. -/
abbrev Byte := BitVec 8

/-- A 64-bit byte address of shared memory. The sums that address table lines are modulo 2^64 (R37);
those of the Journal Writer wrap in the same way by the model's choice (log entry 27). -/
abbrev Addr := BitVec 64

/-- A 32-bit register or counter. -/
abbrev Word32 := BitVec 32

/-- A value of the monotonic count. It wraps at 2^32 (R25). -/
abbrev Tick := BitVec 32

/-- A value of the time of week, 0..60,479,999 (R24). -/
abbrev TimeOfWeek := Fin 60480000

/-- A trunk group number 0..511. -/
abbrev GroupId := Fin 512

/-- A call context index 0..4095. -/
abbrev CtxId := Fin 4096

/-- A carrier number 0..63. -/
abbrev CarrierId := Fin 64

/-- A profile set number 0..15. -/
abbrev SetId := Fin 16

/-- A congestion level 0..3. -/
abbrev Level := Fin 4

/-- A price tier 0..3. -/
abbrev Tier := Fin 4

/-- A time band 0..3. -/
abbrev Band := Fin 4

/-- A distance band 0..7. -/
abbrev Distance := Fin 8

/-- An originating class 0..7. -/
abbrev CallClass := Fin 8

/-- The six attention causes, bit 0 CELL to bit 5 FAULT (R168). -/
abbrev CauseBits := BitVec 6

/-- One mark for each of the six agreement terms, in the order of the masks of
AGREE_SET: ACTIVE, MIN_SECONDS, INCREMENT, PREMIUM, CREDIT_LIMIT, GRID. -/
abbrev TermBits := BitVec 6

end Sys2Proof
end

