-- ==== Sys2Proof/Syntax.lean ====
section
/-! DEFINITION. The commands of the Ordsel 4160: one constructor for each row of
spec/opcode_table.json. The rows have no bits; what a row needs from outside is its operand. -/

namespace Sys2Proof

/-- Which half of the anchor address a write of ANCHOR_LO or ANCHOR_HI stores (R6). -/
inductive AnchorHalf where
  | lo | hi
  deriving DecidableEq, Repr

/-- What resets the part from outside: the RESET pin or the link (R174). -/
inductive ResetSource where
  | pin | link
  deriving DecidableEq, Repr

/-- How a reset is received over the link (R174). -/
inductive LinkResetKind where
  | hotReset | linkDown
  deriving DecidableEq, Repr

/-- The commands and events, in the order of spec/opcode_table.json. Register writes carry the value
written, the ends of reads carry the bytes that arrived, expiries carry the record they belong to.
The request steps act on the cell in hand, whose operand bytes the cell fetch has latched (R7). -/
inductive Instr where
  | start
  | stop
  | restart
  | cold
  | controlOtherCode (code : Word32)
  | nudge (value : Word32)
  | anchorWrite (half : AnchorHalf) (value : Word32)
  | attnStatusWrite (value : Word32)
  | attnEnableWrite (value : Word32)
  | faultInfoWrite (value : Word32)
  /-- `width` is the number of bytes of the access, `offset` its place in the 64-byte window. -/
  | registerWriteIgnored (offset width value : Nat)
  | resetPin
  | linkReset (kind : LinkResetKind)
  | tickAdvance
  | pollTick
  | pollExpiry
  | quietExpiry (g : GroupId)
  | holdOffEnd (g : GroupId)
  | overdueExpiry (i : CtxId)
  /-- The 256 bytes of the anchor block. -/
  | anchorReadEnd (data : List Byte)
  | anchorEngineWriteEnd
  /-- The first 64 bytes of the cell: header and operands. -/
  | cellFetchEnd (data : List Byte)
  | stalledCellResume
  | resultWriteEnd
  | statusWriteEnd
  /-- The 8 bytes of the held cell's link field. -/
  | linkReadEnd (data : List Byte)
  | retireWriteEnd
  | chainErrorReply
  | chainNoReply
  /-- `n` counts the abandoned chain writes still without a report, 0 the oldest. -/
  | chainAbandonedWriteError (n : Nat)
  | nop
  | seize
  | crankback
  | answer
  | release
  | queryContext
  | reportChanges
  | engineSet
  | groupSet
  | queryGroup
  | profileSet
  | agreeSet
  | freeze
  | queryCarrier
  | periodClose
  | invalidate
  | clockSet
  | bandSet
  /-- The bytes of the table line: 64 for AREA and ROUTE, 16 for TARIFF. -/
  | fillCompletion (data : List Byte)
  | fillFault
  | fillNoReply
  /-- The 16 bytes of the map entry. -/
  | openingReadEnd (data : List Byte)
  | recordWriteEnd
  | recordCountWriteEnd
  /-- The 16 bytes of the map entry. -/
  | prefetchReadEnd (data : List Byte)
  | closingHeaderWriteEnd
  | mapEntryClearEnd
  | journalEngineWriteEnd
  | journalErrorReply
  | journalNoReply
  /-- `n` counts the abandoned journal writes still without a report, 0 the oldest. -/
  | journalAbandonedWriteError (n : Nat)
  | resetRelease (source : ResetSource)
  deriving DecidableEq, Repr

end Sys2Proof
end

