-- ==== Sys2Proof/Decode.lean ====
section
/-! DEFINITION. Which command a register write is (R168, R169), and the command a word of the table
spells. -/

namespace Sys2Proof

/-- The command that a value written to CONTROL is: codes 1 to 4, and any other (R169). -/
def controlCommand (code : Word32) : Instr :=
  if code = 1 then .start
  else if code = 2 then .stop
  else if code = 3 then .restart
  else if code = 4 then .cold
  else .controlOtherCode code

/-- The command that a write of the window is: `width` bytes at `offset`. Only a 32-bit write at the
offset of a register that takes one is decoded; a narrower or wider one, one at 0x2C..0x3F and one at a
read-only register are ignored (R168). R168 does not say what a 32-bit write at an offset that is not a
multiple of 4, or past 0x3F, does: it is ignored too (DESIGN CHOICE, log entry 28). -/
def decodeRegisterWrite (offset width value : Nat) : Instr :=
  if width = 4 then
    match offset with
    | 0x04 => .anchorWrite .lo (BitVec.ofNat 32 value)
    | 0x08 => .anchorWrite .hi (BitVec.ofNat 32 value)
    | 0x0C => controlCommand (BitVec.ofNat 32 value)
    | 0x10 => .nudge (BitVec.ofNat 32 value)
    | 0x18 => .attnStatusWrite (BitVec.ofNat 32 value)
    | 0x1C => .attnEnableWrite (BitVec.ofNat 32 value)
    | 0x28 => .faultInfoWrite (BitVec.ofNat 32 value)
    | _ => .registerWriteIgnored offset width value
  else .registerWriteIgnored offset width value

/-- No row of the table has bits, so every word is answered none: the commands of this block are
register writes, which `decodeRegisterWrite` decodes, events and request steps. -/
def decodeTableWord (_nbits _w : Nat) : Option Instr := none

end Sys2Proof
end

