-- ==== Sys2Proof/Config.lean ====
section
/-! DEFINITION. What is fixed for every Ordsel 4160: capacities and limits the chapters state.
The manual leaves no value undefined after a command that goes on, so there is no free value here. -/

namespace Sys2Proof.Config

/-- The line cache holds at most 32 lines (R33, R40). -/
def cacheLines : Nat := 32

/-- The hold store holds at most 32 entries (R161). -/
def holdStoreEntries : Nat := 32

/-- A page has record slots 1..63 (ch. 11). -/
def lastSlot : Nat := 63

/-- The count write of slot 48 is followed by a prefetch (R163). -/
def prefetchSlot : Nat := 48

/-- The signature of a valid anchor block, "OR41" in memory order (R4). -/
def anchorSignature : Nat := 0x3134524F

/-- The constant of the IDENT register (R168). -/
def ident : Word32 := 0x41600103

/-- The saturation limit of payable and receivable (R149). -/
def amountLimit : Nat := 2 ^ 48 - 1

/-- The saturation limit of seconds and calls (R149). -/
def countLimit : Nat := 2 ^ 32 - 1

/-- The largest billed figure of a charge (R146). -/
def billedLimit : Nat := 1048575

/-- The longest quiet window and the largest capture (R74, R84). -/
def longWindow : Nat := 65535

/-- The shortest quiet window (R84). -/
def shortWindow : Nat := 100

/-- Captures kept per group (R73). -/
def historyLength : Nat := 8

/-- A REPORT_CHANGES result holds at most 12 entries (R127). -/
def reportEntries : Nat := 12

end Sys2Proof.Config
end

