-- ==== Sys2Proof/Machine/Bytes.lean ====
section
/-! DEFINITION. Bytes of shared memory: little-endian fields, flag bits and the layout of a written
extent (section 13, R175, R176), and tables of fixed length given by a rule. -/

namespace Sys2Proof.Machine

/-- The byte at an offset. A structure that was read has all its bytes; past them stands 0. -/
def byteAt (data : List Byte) (offset : Nat) : Byte := data.getD offset 0

/-- The little-endian number in `width` bytes from `offset`. -/
def leNat (data : List Byte) (offset : Nat) : Nat → Nat
  | 0 => 0
  | width + 1 => (byteAt data offset).toNat + 256 * leNat data (offset + 1) width

/-- The 64-bit address at `offset`. -/
def addrAt (data : List Byte) (offset : Nat) : Addr := BitVec.ofNat 64 (leNat data offset 8)

/-- One bit of the byte at `offset`. -/
def flagAt (data : List Byte) (offset bit : Nat) : Bool := (byteAt data offset).getLsbD bit

/-- Exactly `length` bytes, as the read asked for. -/
def readBytes (length : Nat) (data : List Byte) : List Byte :=
  (List.range length).map (byteAt data)

/-- A field of a written structure: its offset, its width in bytes and its value. -/
structure Field where
  offset : Nat
  width : Nat
  value : Nat
  deriving DecidableEq, Repr

/-- The part of a field that stands in the byte at `offset`. -/
def Field.byte (f : Field) (offset : Nat) : Byte :=
  BitVec.ofNat 8 (f.value / 256 ^ (offset - f.offset))

/-- Whether a field covers the byte at `offset`. -/
def Field.covers (f : Field) (offset : Nat) : Bool :=
  decide (f.offset ≤ offset) && decide (offset < f.offset + f.width)

/-- The byte at `offset` of a structure that holds the fields given; a byte of none of them is 0
(R176). -/
def layoutByte (fields : List Field) (offset : Nat) : Byte :=
  match fields.find? (fun f => f.covers offset) with
  | some f => f.byte offset
  | none => 0

/-- The bytes `start` to `start + length - 1` of a structure that holds the fields given. -/
def layout (start length : Nat) (fields : List Field) : List Byte :=
  (List.range' start length).map (layoutByte fields)

/-- A flags byte from its bits, bit 0 first. -/
def flags : List Bool → Nat
  | [] => 0
  | b :: rest => b.toNat + 2 * flags rest

/-- The table of length `n` whose entry `i` is `f i`. -/
def tabulate {α : Type} (n : Nat) (f : Nat → α) : Vector α n :=
  ⟨((List.range' 0 n).map f).toArray, by simp⟩

/-- A table with every entry changed by the same rule. -/
def mapEntries {α β : Type} {n : Nat} (f : α → β) (v : Vector α n) : Vector β n :=
  ⟨(v.toList.map f).toArray, by simp⟩

/-- A number brought to the nearest end of a range. -/
def clamp (low high x : Nat) : Nat := max low (min high x)

end Sys2Proof.Machine
end

