-- ==== Sys2Proof/Machine/State.lean ====
section
/-! DEFINITION. The state of the Ordsel 4160, block by block, each with its cold reset values, and the
reasons a step can stop. Plain data throughout. -/

namespace Sys2Proof.Machine

/-! ## Accesses on the link -/

/-- What an access carries: a read asks for so many bytes, a write carries its bytes. -/
inductive Transfer where
  | read (length : Nat)
  | write (data : List Byte)
  deriving DecidableEq, Repr

/-- One access on the link. `base` is the structure accessed, which a fault records (R172); the
bytes lie at `base + offset`. -/
structure Access where
  base : Addr
  offset : Nat
  transfer : Transfer
  deriving DecidableEq, Repr

/-! ## Requests and results -/

/-- The request catalogue of section 1.9. -/
inductive RequestKind where
  | nop | seize | crankback | answer | release | queryContext | reportChanges | engineSet
  | groupSet | queryGroup | profileSet | agreeSet | freeze | queryCarrier | periodClose
  | invalidate | clockSet | bandSet
  deriving DecidableEq, Repr

/-- The result codes of section 13.2. -/
inductive ResultCode where
  | ok | badKind | badOperand | routed | allBlocked | noContext | carrierInactive | creditExceeded
  | incompleteDigits | noRoute | tableFault | noTransitPrice | staleHandle | wrongState
  | crankbackLimit | fieldFixed | frozen
  deriving DecidableEq, Repr

/-- What the cell fetch has read and CC keeps: kind, NOTIFY and the 48 operand bytes (R7). Those of a
SEIZE are kept to its first step only (R57, log entry 29). -/
structure FetchedCell where
  kind : Byte
  notify : Bool
  operands : List Byte
  deriving DecidableEq, Repr

/-- The cause of a RELEASE (section 8.5). -/
inductive ReleaseCause where
  | normal | abandoned | farCongestion | failure
  deriving DecidableEq, Repr

/-! ## What a seizure and a walk carry from one of their events to the next -/

/-- Where the route list of a seizure comes from (R58). -/
inductive AnalysisSource where
  | none | override | areaDefault | refinement
  deriving DecidableEq, Repr

/-- The analysis record of R58. -/
structure Analysis where
  source : AnalysisSource
  position : Nat
  areaKey : Option Nat
  routeList : Nat
  distance : Distance
  deriving DecidableEq, Repr

/-- The two address forms of a SEIZE (section 4.2). -/
inductive AddressForm where
  | digits (dialled : List Nat)
  | override (routeList : Nat) (distance : Distance)
  deriving DecidableEq, Repr

/-- What a seizure carries past stage 4 of its operands: no record of the dialled number is among it
(R57). -/
structure SeizeCall where
  incoming : CarrierId
  cls : CallClass
  ceiling : Nat
  deriving DecidableEq, Repr

/-- The operands of a SEIZE that has passed R96; the address is kept to the end of stage 4 (R57). -/
structure SeizeRequest extends SeizeCall where
  address : AddressForm
  deriving DecidableEq, Repr

/-- What stages 4 to 6 of a seizure have found (R98). -/
structure SeizeTerms where
  call : SeizeCall
  analysis : Analysis
  band : Band
  transitRate : Nat
  transitSetup : Nat
  deriving DecidableEq, Repr

/-- One choice of a route list as delivered, with its place 1..6 (R35). -/
structure Choice where
  number : Nat
  group : GroupId
  alternate : Bool
  classMask : Byte
  deriving DecidableEq, Repr

/-- The outcome of one choice (R99). -/
inductive Reason where
  | admitted | excluded | closed | classBarred | ownerInactive | tableFault | priceUnavailable
  | overCeiling | full | reserved | thinned
  deriving DecidableEq, Repr

/-- One entry of an attempt list (R106). -/
structure Attempt where
  choice : Nat
  group : GroupId
  reason : Reason
  deriving DecidableEq, Repr

/-- Which request walks: a seizure with its terms, or a crankback of a context. -/
inductive WalkFor where
  | seize (terms : SeizeTerms)
  | crankback (ctx : CtxId)
  deriving DecidableEq, Repr

/-! ## Chain Controller -/

/-- The chain states of R1. -/
inductive ChainState where
  | idle | fetching | working | stalled | waiting | faulted
  deriving DecidableEq, Repr

/-- The eleven host-half fields of the anchor block (ch. 1, R1). -/
structure AnchorFields where
  signature : Nat
  chainHead : Addr
  lowBound : Addr
  highBound : Addr
  destinationBase : Addr
  routeBase : Addr
  routeCount : Nat
  tariffBase : Addr
  mapBase : Addr
  mapLength : Nat
  pollPeriod : Nat
  deriving DecidableEq, Repr

/-- The purpose of a CC access (section 1.2). A result write knows the code of the status write that
follows it (R10); a retire write knows the next cell (R15). -/
inductive ChainOp where
  | anchorRead
  | anchorEngineWrite
  | cellFetch
  | linkRead
  | resultWrite (code : ResultCode)
  | statusWrite
  | retireWrite (next : Addr)
  deriving DecidableEq, Repr

/-- A CC access in flight (R2). -/
structure ChainFlight where
  op : ChainOp
  access : Access
  deriving DecidableEq, Repr

/-- What the dispatch of a RELEASE has fixed before it waits (R122). -/
structure PendingRelease where
  ctx : CtxId
  cause : ReleaseCause
  releaseTick : Tick
  ageClamped : Bool
  deriving DecidableEq, Repr

/-- How far the cell in hand has come. -/
inductive Work where
  /-- No cell is being carried out. -/
  | none
  /-- Dispatched by its kind; the request's own step is still to be taken (R8). -/
  | dispatched
  /-- The request waits for a table line (R39). -/
  | awaitingLine
  /-- A walk stands before its next choice, or at its end when none is left: each choice is an event of
  its own (R99, R100), so that other events may come between two of them (R93). -/
  | walking (purpose : WalkFor) (attempts : List Attempt) (choices : List Choice)
  /-- A charged RELEASE waits for a hold-store entry (R124). -/
  | stalledRelease (r : PendingRelease)
  /-- A PERIOD_CLOSE waits for the snapshot or a hold-store entry (R152). -/
  | stalledClose
  /-- The completion writes are under way (R10). -/
  | completing
  deriving DecidableEq, Repr

/-- The state of CC (R1, R2, R3, R7) and the anchor address registers (R168). -/
structure ChainController where
  state : ChainState
  held : Addr
  positionValid : Bool
  stopPending : Bool
  nudgeSeen : Bool
  anchor : AnchorFields
  retiredCount : Word32
  anchorLo : Word32
  anchorHi : Word32
  flight : Option ChainFlight
  cell : Option FetchedCell
  work : Work
  /-- Writes a warm restart has abandoned, oldest first, for which the link may still report an error
  (R3). -/
  abandoned : List Access
  deriving DecidableEq, Repr

/-! ## Timebase -/

/-- The counters and the band table of R24. -/
structure Timebase where
  now : Tick
  timeOfWeek : TimeOfWeek
  bands : Vector Band 336
  pollCounter : Nat
  deriving DecidableEq, Repr

/-! ## Table Access Unit -/

/-- The kinds of table lines (R33). -/
inductive TableKind where
  | area | route | tariff
  deriving DecidableEq, Repr

/-- The tag of a line: a kind and an index (R33). -/
structure Tag where
  kind : TableKind
  index : Nat
  deriving DecidableEq, Repr

/-- A held line: its tag and the bytes read (R33). -/
structure Line where
  tag : Tag
  bytes : List Byte
  deriving DecidableEq, Repr

/-- A walk that waits for the owner's handover line of `current` (R100). -/
structure Walk where
  purpose : WalkFor
  attempts : List Attempt
  current : Choice
  rest : List Choice
  deriving DecidableEq, Repr

/-- The requester of a fill: the stage that waits for the line, with what it carries (R33, R39). -/
inductive Requester where
  /-- Stage 4 of a seizure (R53). -/
  | area (request : SeizeRequest)
  /-- Stage 6 of a seizure (R98). -/
  | transit (call : SeizeCall) (analysis : Analysis) (band : Band)
  /-- Stage 7 of a seizure (R98). -/
  | route (terms : SeizeTerms)
  /-- The route list of a crankback (R111). -/
  | crankRoute (ctx : CtxId)
  /-- The second part of a choice (R100). -/
  | owner (walk : Walk)
  deriving DecidableEq, Repr

/-- A fill in flight (R33). -/
structure Fill where
  tag : Tag
  address : Addr
  requester : Requester
  deriving DecidableEq, Repr

/-- The state of TAU (R33). Lines stand in fill order, oldest first. -/
structure TableAccess where
  lines : List Line
  fill : Option Fill
  deriving DecidableEq, Repr

/-! ## Trunk groups and congestion -/

/-- MODE of a group. -/
inductive Mode where
  | auto | held
  deriving DecidableEq, Repr

/-- The filter depth K: 1, 2, 4 or 8 (R60). -/
inductive Depth where
  | k1 | k2 | k4 | k8
  deriving DecidableEq, Repr

/-- The change flag of a group (R91). -/
inductive ChangeFlag where
  | none | level | adviseUp | adviseDown
  deriving DecidableEq, Repr

/-- A running quiet timer (R74). -/
structure QuietTimer where
  window : Nat
  start : Tick
  deriving DecidableEq, Repr

/-- The six fields of a profile and of an active control (R76). -/
structure Control where
  altAdmit : Nat
  reserve : Nat
  tier : Tier
  stepInterval : Nat
  holdOff : Nat
  decay : Nat
  deriving DecidableEq, Repr

/-- The cold reset values of R76. -/
def Control.cold : Control :=
  { altAdmit := 16, reserve := 0, tier := 0, stepInterval := 0, holdOff := 0, decay := 8 }

/-- A trunk group record (R60). The filtered interval is a function of the history and K (R73). -/
structure Group where
  provisioned : Nat
  busy : Nat
  isOpen : Bool
  owner : CarrierId
  profileSet : SetId
  depth : Depth
  mode : Mode
  level : Level
  control : Control
  thinning : Nat
  history : List Nat
  tLast : Option Tick
  holdOffEnd : Option Tick
  quiet : Option QuietTimer
  change : ChangeFlag
  seizes : Word32
  pressures : Word32
  deriving DecidableEq, Repr

/-- A group after a cold reset (R60). -/
def Group.cold : Group :=
  { provisioned := 0, busy := 0, isOpen := false, owner := 0, profileSet := 0, depth := .k1,
    mode := .auto, level := 0, control := Control.cold, thinning := 0, history := [],
    tLast := none, holdOffEnd := none, quiet := none, change := .none, seizes := 0,
    pressures := 0 }

/-! ## Call contexts -/

/-- The context states of ch. 8. -/
inductive CallState where
  | free | seized | answered
  deriving DecidableEq, Repr

/-- A call context (R117). -/
structure Context where
  state : CallState
  generation : BitVec 4
  incoming : CarrierId
  cls : CallClass
  ceiling : Nat
  band : Band
  distance : Distance
  routeList : Nat
  source : AnalysisSource
  transitRate : Nat
  transitSetup : Nat
  minIn : Nat
  incIn : Nat
  group : GroupId
  choice : Nat
  owner : CarrierId
  tier : Tier
  quote : Nat
  handoverSetup : Nat
  minOut : Nat
  incOut : Nat
  crankbacks : Nat
  seizeTick : Tick
  answerTick : Option Tick
  answerTime : Option TimeOfWeek
  overdue : Bool
  overdueReported : Bool
  deriving DecidableEq, Repr

/-- A context after a cold reset (R117). -/
def Context.cold : Context :=
  { state := .free, generation := 0, incoming := 0, cls := 0, ceiling := 0, band := 0,
    distance := 0, routeList := 0, source := .none, transitRate := 0, transitSetup := 0,
    minIn := 0, incIn := 0, group := 0, choice := 0, owner := 0, tier := 0, quote := 0,
    handoverSetup := 0, minOut := 0, incOut := 0, crankbacks := 0, seizeTick := 0,
    answerTick := none, answerTime := none, overdue := false, overdueReported := false }

/-- The Context Table: contexts, the free FIFO with its head first, the answer limit in seconds and the
limit that the last tick advance has read for its overdue checks (R117, R118, R125). -/
structure ContextTable where
  contexts : Vector Context 4096
  freeFifo : List CtxId
  answerLimit : Nat
  limitAtTick : Nat
  deriving DecidableEq, Repr

/-! ## Carrier agreements -/

/-- The values of the term GRID (R132). -/
inductive Grid where
  | own | default
  deriving DecidableEq, Repr

/-- An agreement: own values, override mask and fixed flags (R132). The masks have a bit for each term
in the order of `TermBits`; the override bit of ACTIVE stays 0. -/
structure Agreement where
  active : Bool
  minSeconds : Nat
  increment : Nat
  premium : Vector Nat 4
  creditLimit : Nat
  grid : Grid
  override : TermBits
  fixed : TermBits
  deriving DecidableEq, Repr

/-- An agreement after a cold reset (R132). -/
def Agreement.cold : Agreement :=
  { active := false, minSeconds := 0, increment := 1, premium := Vector.replicate 4 128,
    creditLimit := 0, grid := .own, override := 0, fixed := 0 }

/-- The Agreement Table (R132). -/
structure AgreementTable where
  agreements : Vector Agreement 64
  freezePending : Bool
  freezeInForce : Bool
  deriving DecidableEq, Repr

/-! ## Settlement -/

/-- The accumulators of one carrier (R142). -/
structure Account where
  payable : Nat
  receivable : Nat
  outSeconds : Nat
  inSeconds : Nat
  outCalls : Nat
  inCalls : Nat
  sat : Bool
  deriving DecidableEq, Repr

/-- An account after a cold reset and after a close (R142, R153). -/
def Account.zero : Account :=
  { payable := 0, receivable := 0, outSeconds := 0, inSeconds := 0, outCalls := 0, inCalls := 0,
    sat := false }

/-- The Rating Unit (R142). -/
structure RatingUnit where
  accounts : Vector Account 64
  period : Word32
  deriving DecidableEq, Repr

/-- A CHARGE record (R150). -/
structure ChargeRecord where
  clamped : Bool
  cause : ReleaseCause
  tier : Tier
  band : Band
  distance : Distance
  handle : Nat
  group : GroupId
  routeList : Nat
  choice : Nat
  crankbacks : Nat
  incoming : CarrierId
  owner : CarrierId
  answerTime : Nat
  duration : Nat
  billedOut : Nat
  billedIn : Nat
  payable : Nat
  receivable : Nat
  deriving DecidableEq, Repr

/-! ## Charge journal -/

/-- The journal states of R157. -/
inductive JournalState where
  | idle | opening | running | waitingPage | faulted
  deriving DecidableEq, Repr

/-- An entry of the hold store (R161). -/
inductive HoldEntry where
  | charge (record : ChargeRecord)
  | periodEnd (period : Word32)
  deriving DecidableEq, Repr

/-- The closing snapshot while it is held (R155). -/
structure Snapshot where
  period : Word32
  accounts : Vector Account 64
  deriving DecidableEq, Repr

/-- A map entry as read: VALID and the page address (section 13.5). -/
structure MapEntry where
  valid : Bool
  page : Addr
  deriving DecidableEq, Repr

/-- The close pending state of R157. -/
inductive ClosePending where
  | none | full | periodEnd
  deriving DecidableEq, Repr

/-- The expansion cursor of R157. -/
structure Cursor where
  carrier : Nat
  markerWritten : Bool
  deriving DecidableEq, Repr

/-- The kinds of journal records (section 13.6). -/
inductive RecordKind where
  | charge | summary | marker
  deriving DecidableEq, Repr

/-- The purpose of a JW access (R158 to R165). An opening knows whether it is a re-read made from
WAITING_PAGE (R159); the engine-half write knows whether its close ends a period (R164). -/
inductive JournalOp where
  | opening (reread : Bool)
  | prefetch
  | record (kind : RecordKind)
  | count (kind : RecordKind)
  | header
  | mapClear
  | engineWrite (periodEnd : Bool)
  deriving DecidableEq, Repr

/-- A JW access in flight (R158). -/
structure JournalFlight where
  op : JournalOp
  access : Access
  deriving DecidableEq, Repr

/-- The Journal Writer (R157), with the anchor address of the last valid anchor read (section
11.2). -/
structure JournalWriter where
  state : JournalState
  mapIndex : Nat
  page : Addr
  slot : Nat
  sequence : Word32
  period : Word32
  close : ClosePending
  prefetch : Option MapEntry
  hold : List HoldEntry
  snapshot : Option Snapshot
  cursor : Cursor
  nudgeSeen : Bool
  flight : Option JournalFlight
  anchor : Addr
  /-- Writes a warm restart has abandoned, oldest first, for which the link may still report an error
  (R158). -/
  abandoned : List Access
  deriving DecidableEq, Repr

/-! ## Attention and faults -/

/-- The attention causes (R170). -/
inductive Cause where
  | cell | change | page | jstall | period | fault
  deriving DecidableEq, Repr

/-- The kinds of captured faults (R168). -/
inductive FaultKind where
  | noReply | errorReply | badLink | notPosted | anchorInvalid
  deriving DecidableEq, Repr

/-- The memory agents (section 12.3). -/
inductive Agent where
  | chain | table | journal
  deriving DecidableEq, Repr

/-- A filled fault capture (R172). -/
structure Capture where
  address : Addr
  kind : FaultKind
  agent : Agent
  lost : Bool
  deriving DecidableEq, Repr

/-- The attention registers and the fault capture; no capture is VALID clear (R168, R172). The count
of interrupt messages is the model's record of an output (R171). -/
structure AttentionLogic where
  status : CauseBits
  enable : CauseBits
  capture : Option Capture
  interrupts : Nat
  deriving DecidableEq, Repr

/-- Which cold resets from outside are being held (R174). -/
structure ResetLines where
  pin : Bool
  link : Bool
  deriving DecidableEq, Repr

/-! ## The whole part -/

/-- The state of the part, and the queue of the commands that wait, first in, first out. -/
structure State where
  cc : ChainController
  tb : Timebase
  tau : TableAccess
  groups : Vector Group 512
  profiles : Vector (Vector Control 4) 16
  ct : ContextTable
  agr : AgreementTable
  ru : RatingUnit
  jw : JournalWriter
  afl : AttentionLogic
  resets : ResetLines
  pending : List Instr
  deriving DecidableEq, Repr

/-- CC after a cold reset (R1, R168). -/
def ChainController.cold : ChainController :=
  { state := .idle, held := 0, positionValid := false, stopPending := false, nudgeSeen := false,
    anchor :=
      { signature := 0, chainHead := 0, lowBound := 0, highBound := 0, destinationBase := 0,
        routeBase := 0, routeCount := 0, tariffBase := 0, mapBase := 0, mapLength := 0,
        pollPeriod := 0 },
    retiredCount := 0, anchorLo := 0, anchorHi := 0, flight := none, cell := none, work := .none,
    abandoned := [] }

/-- TB after a cold reset (R24). -/
def Timebase.cold : Timebase :=
  { now := 0, timeOfWeek := 0, bands := Vector.replicate 336 0, pollCounter := 0 }

/-- TAU after a cold reset (R33). -/
def TableAccess.cold : TableAccess := { lines := [], fill := none }

/-- CT after a cold reset (R117, R118, R125). -/
def ContextTable.cold : ContextTable :=
  { contexts := Vector.replicate 4096 Context.cold, freeFifo := List.finRange 4096,
    answerLimit := 0, limitAtTick := 0 }

/-- AT after a cold reset (R132). -/
def AgreementTable.cold : AgreementTable :=
  { agreements := Vector.replicate 64 Agreement.cold, freezePending := false,
    freezeInForce := false }

/-- RU after a cold reset (R142). -/
def RatingUnit.cold : RatingUnit := { accounts := Vector.replicate 64 Account.zero, period := 0 }

/-- JW after a cold reset (R157). No rule gives the cold value of the anchor address of the last valid
anchor read; 0 is the model's choice (DESIGN CHOICE, log entry 24). -/
def JournalWriter.cold : JournalWriter :=
  { state := .idle, mapIndex := 0, page := 0, slot := 1, sequence := 0, period := 0, close := .none,
    prefetch := none, hold := [], snapshot := none,
    cursor := { carrier := 0, markerWritten := false }, nudgeSeen := false, flight := none,
    anchor := 0, abandoned := [] }

/-- AFL after a cold reset (R168, R170, R173). -/
def AttentionLogic.cold : AttentionLogic :=
  { status := 0, enable := 0, capture := none, interrupts := 0 }

/-- The part right after a cold reset, with no reset held and no command waiting: every block holds
the cold values of its own chapter. -/
def State.reset : State :=
  { cc := ChainController.cold, tb := Timebase.cold, tau := TableAccess.cold,
    groups := Vector.replicate 512 Group.cold,
    profiles := Vector.replicate 16 (Vector.replicate 4 Control.cold),
    ct := ContextTable.cold, agr := AgreementTable.cold, ru := RatingUnit.cold,
    jw := JournalWriter.cold, afl := AttentionLogic.cold,
    resets := { pin := false, link := false }, pending := [] }

/-- Reasons a step could stop with a fault. There is none: a memory fault of this part is an effect on
its state (R2, R41, R158, R172), so the type is empty and no step can answer it (safe). -/
inductive Fault where
  deriving DecidableEq, Repr

/-- Reasons a step could be refused. -/
inductive Refusal where
  /-- An arm of `exec` whose command has no meaning yet would raise this (safe). No arm does. -/
  | notModelled (mnemonic : String)
  deriving DecidableEq, Repr

end Sys2Proof.Machine
end

