-- ==== Sys2Proof/Machine/Codes.lean ====
section
/-! DEFINITION. The numbers by which shared memory and the registers name states, kinds, codes and
reasons (section 1.9, R168, sections 13.2 to 13.6). -/

namespace Sys2Proof.Machine

/-- The request kind of a kind code, none when it is not in the catalogue (section 1.9). -/
def requestKind (code : Byte) : Option RequestKind :=
  match code.toNat with
  | 0x00 => some .nop
  | 0x01 => some .seize
  | 0x02 => some .crankback
  | 0x03 => some .answer
  | 0x04 => some .release
  | 0x05 => some .queryContext
  | 0x06 => some .reportChanges
  | 0x07 => some .engineSet
  | 0x10 => some .groupSet
  | 0x11 => some .queryGroup
  | 0x12 => some .profileSet
  | 0x18 => some .agreeSet
  | 0x19 => some .freeze
  | 0x1A => some .queryCarrier
  | 0x1B => some .periodClose
  | 0x20 => some .invalidate
  | 0x21 => some .clockSet
  | 0x22 => some .bandSet
  | _ => none

/-- The result codes of section 13.2. -/
def ResultCode.code : ResultCode → Nat
  | .ok => 0
  | .badKind => 1
  | .badOperand => 2
  | .routed => 3
  | .allBlocked => 4
  | .noContext => 5
  | .carrierInactive => 6
  | .creditExceeded => 7
  | .incompleteDigits => 8
  | .noRoute => 9
  | .tableFault => 10
  | .noTransitPrice => 11
  | .staleHandle => 12
  | .wrongState => 13
  | .crankbackLimit => 14
  | .fieldFixed => 15
  | .frozen => 16

/-- The chain state field of STATE (R168). -/
def ChainState.code : ChainState → Nat
  | .idle => 0
  | .fetching => 1
  | .working => 2
  | .stalled => 3
  | .waiting => 4
  | .faulted => 5

/-- The journal state field of STATE (R168). -/
def JournalState.code : JournalState → Nat
  | .idle => 0
  | .opening => 1
  | .running => 2
  | .waitingPage => 3
  | .faulted => 4

/-- The kind field of FAULT_INFO (R168). -/
def FaultKind.code : FaultKind → Nat
  | .noReply => 1
  | .errorReply => 2
  | .badLink => 3
  | .notPosted => 4
  | .anchorInvalid => 5

/-- The agent field of FAULT_INFO (R168). -/
def Agent.code : Agent → Nat
  | .chain => 1
  | .table => 2
  | .journal => 3

/-- The bit of a cause in ATTN_STATUS and ATTN_ENABLE (R168). -/
def Cause.mask : Cause → CauseBits
  | .cell => 0b000001
  | .change => 0b000010
  | .page => 0b000100
  | .jstall => 0b001000
  | .period => 0b010000
  | .fault => 0b100000

/-- Reasons of an attempt list (section 13.3). -/
def Reason.code : Reason → Nat
  | .admitted => 0
  | .excluded => 1
  | .closed => 2
  | .classBarred => 3
  | .ownerInactive => 4
  | .tableFault => 5
  | .priceUnavailable => 6
  | .overCeiling => 7
  | .full => 8
  | .reserved => 9
  | .thinned => 10

/-- Analysis sources (section 13.3). -/
def AnalysisSource.code : AnalysisSource → Nat
  | .none => 0
  | .override => 1
  | .areaDefault => 2
  | .refinement => 3

/-- Context states (section 13.3). -/
def CallState.code : CallState → Nat
  | .free => 0
  | .seized => 1
  | .answered => 2

/-- Release causes (section 13.4). -/
def ReleaseCause.code : ReleaseCause → Nat
  | .normal => 0
  | .abandoned => 1
  | .farCongestion => 2
  | .failure => 3

/-- The release cause of an operand, none outside the four values (R122). -/
def releaseCause (code : Nat) : Option ReleaseCause :=
  match code with
  | 0 => some .normal
  | 1 => some .abandoned
  | 2 => some .farCongestion
  | 3 => some .failure
  | _ => none

/-- Change flags (section 13.4, QUERY_GROUP and REPORT_CHANGES). -/
def ChangeFlag.code : ChangeFlag → Nat
  | .none => 0
  | .level => 1
  | .adviseUp => 2
  | .adviseDown => 3

/-- The value of K (R60). -/
def Depth.value : Depth → Nat
  | .k1 => 1
  | .k2 => 2
  | .k4 => 4
  | .k8 => 8

/-- The K encoding of GROUP_SET, none above 3 (R65). -/
def depthOf (code : Nat) : Option Depth :=
  match code with
  | 0 => some .k1
  | 1 => some .k2
  | 2 => some .k4
  | 3 => some .k8
  | _ => none

/-- The MODE operand, none when it is neither AUTO nor HELD (R65). -/
def modeOf (code : Nat) : Option Mode :=
  match code with
  | 0 => some .auto
  | 1 => some .held
  | _ => none

/-- A one-byte operand that must be 0 or 1: OPEN and ACTIVE (R65, R135). -/
def twoValued (code : Nat) : Option Bool :=
  match code with
  | 0 => some false
  | 1 => some true
  | _ => none

/-- The GRID operand, none when it is neither OWN nor DEFAULT (R135). -/
def gridOf (code : Nat) : Option Grid :=
  match code with
  | 0 => some .own
  | 1 => some .default
  | _ => none

/-- GRID in results (section 13.4). -/
def Grid.code : Grid → Nat
  | .own => 0
  | .default => 1

/-- Page close reasons (section 13.6). -/
def ClosePending.code : ClosePending → Nat
  | .none => 0
  | .full => 1
  | .periodEnd => 2

/-- An operand as a number below `n`, none when it is not. -/
def below (n value : Nat) : Option (Fin n) :=
  if h : value < n then some ⟨value, h⟩ else none

end Sys2Proof.Machine
end

