-- ==== Sys2Proof/Machine/Flags.lean ====
section
/-! DEFINITION. The flags the host reads in registers: attention causes and the attention signal, the
fault capture, and the register window (chapter 12). -/

namespace Sys2Proof.Machine

/-- The attention signal: at least one cause is set with its enable set (R171). -/
def AttentionLogic.signal (a : AttentionLogic) : Bool := (a.status &&& a.enable) != 0

/-- New causes and enables. A change of the signal from deasserted to asserted sends one interrupt
message (R171). -/
def AttentionLogic.update (a : AttentionLogic) (status enable : CauseBits) : AttentionLogic :=
  let b : AttentionLogic := { a with status := status, enable := enable }
  if !a.signal && b.signal then { b with interrupts := a.interrupts + 1 } else b

/-- An event sets a cause (R170). -/
def AttentionLogic.raise (c : Cause) (a : AttentionLogic) : AttentionLogic :=
  a.update (a.status ||| c.mask) a.enable

/-- The capture after a fault is offered: the first fault fills it, a later one sets LOST (R172). -/
def captureAfter (kind : FaultKind) (agent : Agent) (address : Addr) :
    Option Capture → Capture
  | none => { address := address, kind := kind, agent := agent, lost := false }
  | some first => { first with lost := true }

/-- An agent offers a fault: the capture takes it and ATTN FAULT is set (R172). -/
def AttentionLogic.offer (kind : FaultKind) (agent : Agent) (address : Addr)
    (a : AttentionLogic) : AttentionLogic :=
  AttentionLogic.raise .fault { a with capture := some (captureAfter kind agent address a.capture) }

/-- Sets an attention cause. -/
def State.raise (c : Cause) (s : State) : State := { s with afl := s.afl.raise c }

/-- Offers a fault to the capture. -/
def State.offerFault (kind : FaultKind) (agent : Agent) (address : Addr) (s : State) : State :=
  { s with afl := s.afl.offer kind agent address }

/-! ## The register window -/

/-- STATE: the chain and journal states, stop-pending, position-valid and the freeze flags (R168). -/
def State.stateRegister (s : State) : Word32 :=
  BitVec.ofNat 32 (s.cc.state.code + 16 * s.jw.state.code
    + 256 * flags [s.cc.stopPending, s.cc.positionValid, s.agr.freezePending, s.agr.freezeInForce])

/-- FAULT_INFO: VALID, LOST, kind and agent; 0 while nothing is captured (R168, R173). -/
def faultInfo : Option Capture → Word32
  | none => 0
  | some c => BitVec.ofNat 32 (flags [true, c.lost] + 16 * c.kind.code + 256 * c.agent.code)

/-- The captured address; 0 while nothing is captured (R173). -/
def faultAddress : Option Capture → Addr
  | none => 0
  | some c => c.address

/-- A read of the register window. Only a 32-bit read at the offset of a readable register returns a
value; a narrower or wider one, one at 0x2C..0x3F and one of a write-only register return 0 (R168).
R168 does not say what a 32-bit read at an offset that is not a multiple of 4, or past 0x3F, returns: it
returns 0 too (DESIGN CHOICE, log entry 28). -/
def State.readRegister (s : State) (offset width : Nat) : Word32 :=
  if width = 4 then
    match offset with
    | 0x00 => Config.ident
    | 0x04 => s.cc.anchorLo
    | 0x08 => s.cc.anchorHi
    | 0x14 => s.stateRegister
    | 0x18 => s.afl.status.zeroExtend 32
    | 0x1C => s.afl.enable.zeroExtend 32
    | 0x20 => (faultAddress s.afl.capture).extractLsb' 0 32
    | 0x24 => (faultAddress s.afl.capture).extractLsb' 32 32
    | 0x28 => faultInfo s.afl.capture
    | _ => 0
  else 0

end Sys2Proof.Machine
end

