-- ==== Sys2Proof/Machine/Ops.lean ====
section
/-! DEFINITION. The operations the commands share: reading and writing records, the accesses of CC,
completing a cell, chain faults, poll counting, the line cache, and the resets. -/

namespace Sys2Proof.Machine

/-- The answer of a command. -/
abbrev Answer := Host.Outcome State Fault Refusal

/-! ## Records -/

/-- A group record. -/
def State.group (s : State) (g : GroupId) : Group := s.groups[g]

/-- Replaces a group record. -/
def State.setGroup (g : GroupId) (r : Group) (s : State) : State :=
  { s with groups := s.groups.set g r }

/-- The profiles of a set, one for each level (R76). -/
def State.profileRow (s : State) (n : SetId) : Vector Control 4 := s.profiles[n]

/-- Replaces one profile. -/
def State.setProfile (n : SetId) (l : Level) (c : Control) (s : State) : State :=
  { s with profiles := s.profiles.set n ((s.profileRow n).set l c) }

/-- A call context. -/
def State.context (s : State) (i : CtxId) : Context := s.ct.contexts[i]

/-- Replaces a call context. -/
def State.setContext (i : CtxId) (c : Context) (s : State) : State :=
  { s with ct := { s.ct with contexts := s.ct.contexts.set i c } }

/-- Replaces the free FIFO. -/
def State.setFifo (q : List CtxId) (s : State) : State :=
  { s with ct := { s.ct with freeFifo := q } }

/-- An agreement. -/
def State.agreement (s : State) (c : CarrierId) : Agreement := s.agr.agreements[c]

/-- Replaces an agreement. -/
def State.setAgreement (c : CarrierId) (a : Agreement) (s : State) : State :=
  { s with agr := { s.agr with agreements := s.agr.agreements.set c a } }

/-- The accumulators of a carrier. -/
def State.account (s : State) (c : CarrierId) : Account := s.ru.accounts[c]

/-- Replaces the accumulators of a carrier. -/
def State.setAccount (c : CarrierId) (a : Account) (s : State) : State :=
  { s with ru := { s.ru with accounts := s.ru.accounts.set c a } }

/-! ## Time -/

/-- The monotonic count at the event (R26). -/
def State.now (s : State) : Tick := s.tb.now

/-- A duration or an age: the difference of two counts modulo 2^32 (R26). -/
def elapsed (since now : Tick) : Nat := (now - since).toNat

/-! ## Poll counting -/

/-- A cold reset is being held from outside (R174). -/
def State.inReset (s : State) : Bool := s.resets.pin || s.resets.link

/-- The conditions under which the poll counter counts (R29). -/
def State.pollCounting (s : State) : Bool :=
  (s.cc.state == .waiting || s.jw.state == .waitingPage) && s.cc.anchor.pollPeriod != 0
    && !s.inReset

/-- When the conditions do not hold, the poll counter is 0 (R29). -/
def State.settlePoll (s : State) : State :=
  if s.pollCounting then s else { s with tb := { s.tb with pollCounter := 0 } }

/-- The chain enters a state. -/
def State.enterChain (c : ChainState) (s : State) : State :=
  State.settlePoll { s with cc := { s.cc with state := c } }

/-- The Journal Writer enters a state. -/
def State.enterJournal (j : JournalState) (s : State) : State :=
  State.settlePoll { s with jw := { s.jw with state := j } }

/-! ## Accesses of the Chain Controller -/

/-- The anchor address: ANCHOR_HI and ANCHOR_LO (R168). -/
def State.anchorAddress (s : State) : Addr := s.cc.anchorHi ++ s.cc.anchorLo

/-- CC issues an access; it is then the one in flight (R2). -/
def State.issueChain (op : ChainOp) (base : Addr) (offset : Nat) (t : Transfer) (s : State) :
    State :=
  { s with cc := { s.cc with flight := some ⟨op, ⟨base, offset, t⟩⟩ } }

/-- CC reads the anchor block (R4). -/
def State.readAnchor (s : State) : State :=
  (s.enterChain .fetching).issueChain .anchorRead s.anchorAddress 0 (.read 256)

/-- CC reads the header and the operands of the held cell (R7). -/
def State.fetchCell (s : State) : State :=
  (s.enterChain .fetching).issueChain .cellFetch s.cc.held 0 (.read 64)

/-- CC reads the held cell's link field (R13). -/
def State.readLink (s : State) : State :=
  (s.enterChain .fetching).issueChain .linkRead s.cc.held 0 (.read 8)

/-- CC writes its part of the engine half: a retire mark and the retired count, anchor bytes 128..139
(R5, R15, R175). -/
def State.writeRetireMark (op : ChainOp) (mark : Addr) (s : State) : State :=
  (s.enterChain .fetching).issueChain op s.anchorAddress 128
    (.write (layout 128 12 [⟨128, 8, mark.toNat⟩, ⟨136, 4, s.cc.retiredCount.toNat⟩]))

/-- A request has been carried out: CC writes the result area, cell bytes 64..127, with the fields
given and every other byte 0 (R10, R175, R176). -/
def State.complete (code : ResultCode) (fields : List Field) (s : State) : State :=
  let t := s.enterChain .working
  { t with
    cc := { t.cc with
      work := .completing,
      flight := some ⟨.resultWrite code, ⟨t.cc.held, 64, .write (layout 64 64 fields)⟩⟩ } }

/-- CC writes COMPLETE and the result code, cell bytes 10..11 (R10, R175). -/
def State.writeStatus (code : ResultCode) (s : State) : State :=
  s.issueChain .statusWrite s.cc.held 10 (.write (layout 10 2 [⟨10, 1, 2⟩, ⟨11, 1, code.code⟩]))

/-- The cell in hand is done with: completed, faulted or abandoned. -/
def State.dropCell (s : State) : State :=
  { s with cc := { s.cc with cell := none, work := .none, flight := none } }

/-- A chain fault: the capture is offered it with agent CHAIN, ATTN FAULT is set and the chain goes to
FAULTED, keeping position-valid, the held cell and stop-pending (R2). -/
def State.chainFault (kind : FaultKind) (address : Addr) (s : State) : State :=
  ((s.offerFault kind .chain address).dropCell).enterChain .faulted

/-- The chain enters IDLE, which clears stop-pending and nudge-seen (R1). -/
def State.chainIdle (s : State) : State :=
  let t := s.dropCell
  { t with cc := { t.cc with stopPending := false, nudgeSeen := false } }.enterChain .idle

/-- A write goes onto the link whatever happens to its agent. -/
def Access.isWrite (a : Access) : Bool :=
  match a.transfer with
  | .read _ => false
  | .write _ => true

/-- The abandoned writes for which an error report may still come, when an access in flight is
abandoned by a warm restart (R3, R158). -/
def abandonedAfter (abandoned : List Access) : Option Access → List Access
  | some a => if a.isWrite then abandoned ++ [a] else abandoned
  | none => abandoned

/-! ## The line cache -/

/-- A lookup: the bytes of the held line with the tag, none on a miss. It changes nothing (R39). -/
def State.lookup (s : State) (t : Tag) : Option (List Byte) :=
  (s.tau.lines.find? (fun l => l.tag == t)).map (fun l => l.bytes)

/-- Drops every held line that the test names; the others keep their order (R45, R46). -/
def State.dropLines (test : Tag → Bool) (s : State) : State :=
  { s with tau := { s.tau with lines := s.tau.lines.filter (fun l => !test l.tag) } }

/-- A flush drops every held line (R47). -/
def State.flush (s : State) : State := { s with tau := { s.tau with lines := [] } }

/-- A fill in flight is abandoned: its data is discarded, its fault not offered (R42). -/
def State.abandonFill (s : State) : State := { s with tau := { s.tau with fill := none } }

/-- The size of a line in bytes (R33). -/
def TableKind.bytes : TableKind → Nat
  | .area => 64
  | .route => 64
  | .tariff => 16

/-- The memory address of a line, from the cached anchor fields, modulo 2^64 (R37). -/
def State.lineAddress (s : State) (t : Tag) : Addr :=
  let base := match t.kind with
    | .area => s.cc.anchor.destinationBase
    | .route => s.cc.anchor.routeBase
    | .tariff => s.cc.anchor.tariffBase
  base + BitVec.ofNat 64 (t.index * t.kind.bytes)

/-- A miss: TAU issues the read of the line and the requester waits (R39). -/
def State.startFill (t : Tag) (r : Requester) (s : State) : State :=
  { s with
    tau := { s.tau with fill := some ⟨t, s.lineAddress t, r⟩ },
    cc := { s.cc with work := .awaitingLine } }

/-- Installation of a line: at 32 held lines the oldest is evicted first, and the new line joins the
tail (R40). -/
def installLine (line : Line) (lines : List Line) : List Line :=
  (if lines.length ≥ Config.cacheLines then lines.tail else lines) ++ [line]

/-! ## Requests -/

/-- The cell in hand, when the request of the kind given has been dispatched and its step is still to
be taken (R8). -/
def State.requestInHand (s : State) (k : RequestKind) : Option FetchedCell :=
  if s.cc.state = .working ∧ s.cc.work = .dispatched then
    s.cc.cell.filter (fun c => requestKind c.kind == some k)
  else none

/-- The step of a request: carried out on the cell in hand; where no such request is in hand, the
event does not come about and nothing changes (log entries 3 and 4). -/
def onRequest (k : RequestKind) (carryOut : FetchedCell → State → State) (s : State) : Answer :=
  match s.requestInHand k with
  | some c => .next (carryOut c s)
  | none => .next s

/-- An operand of the cell in hand: `width` bytes at the cell offset given (section 13). -/
def FetchedCell.operand (c : FetchedCell) (offset width : Nat) : Nat :=
  leNat c.operands (offset - 16) width

/-- A flag operand uses bit 0 of its byte (section 13.4). -/
def FetchedCell.flag (c : FetchedCell) (offset : Nat) : Bool := flagAt c.operands (offset - 16) 0

/-- The operand bytes of the cell in hand are kept no longer (R57). That they go in the first step of a
SEIZE, whatever it comes to, is the model's choice (DESIGN CHOICE, log entry 29); nothing reads them
after it. -/
def State.dropOperands (s : State) : State :=
  { s with cc := { s.cc with cell := s.cc.cell.map (fun c => { c with operands := [] }) } }

/-- A register write is taken unless a reset is held (R174). -/
def onRegisterWrite (take : State → State) (s : State) : Answer :=
  if s.inReset then .next s else .next (take s)

/-! ## Cold reset -/

/-- A cold reset: every block takes its cold values. The lines of the reset, the waiting commands and
the count of interrupt messages sent are not the part's own state (R22, R174, log entry 15). It
reaches a call as well: R63 says that a cold reset between the pressure event of a CRANKBACK and its
end leaves the call SEIZED with BUSY unchanged, and R93, R108, R138 and R156 speak likewise of what
stands after one, R138 of the change of an AGREE_SET whose event has been taken; here the cold values
of R60, R117, R131, R132 and R142 win, so that every context is FREE, every BUSY and total 0 and every
agreement, override mask and fixed flag cold (DEDUCED, log entry 26). -/
def State.coldReset (s : State) : State :=
  { State.reset with
    afl := { AttentionLogic.cold with interrupts := s.afl.interrupts },
    resets := s.resets, pending := s.pending }

end Sys2Proof.Machine
end

