-- ==== Sys2Proof/Machine/Congestion.lean ====
section
/-! DEFINITION. The Congestion Monitor (chapter 6): the filtered interval, pressure events, quiet
expiries, hold-off ends, and PROFILE_SET. Each rule acts on one group record. -/

namespace Sys2Proof.Machine

/-! ## The filtered interval and the windows computed from it -/

/-- FI: the average, rounded down, of the most recent min(n, K) captures; undefined while the history
is empty (R73). -/
def filteredInterval (k : Depth) (history : List Nat) : Option Nat :=
  match history with
  | [] => none
  | _ =>
    let recent := history.reverse.take k.value
    some (recent.sum / recent.length)

/-- FI of a group (R73). -/
def Group.fi (r : Group) : Option Nat := filteredInterval r.depth r.history

/-- The quiet window W computed from FI and a DECAY (R84, R85, R87); 65,535 while FI is undefined
(R87). -/
def quietWindow (fi : Option Nat) (decay : Nat) : Nat :=
  match fi with
  | none => Config.longWindow
  | some f => clamp Config.shortWindow Config.longWindow (f * decay / 8)

/-- The hold-off end set from FI and a HOLDOFF at `now`; a HOLDOFF of 0 starts none (R75). -/
def holdOffFrom (fi holdOff : Nat) (now : Tick) : Option Tick :=
  if holdOff = 0 then none else some (now + BitVec.ofNat 32 (max 1 (fi * holdOff / 128)))

/-- The capture I: the spacing of two pressure events, clamped to 1..65,535 (R84). -/
def captureOf (last now : Tick) : Nat := clamp 1 Config.longWindow (elapsed last now)

/-- The history with a new capture: at 8 captures the oldest is removed first (R73, R84). -/
def pushCapture (i : Nat) (history : List Nat) : List Nat :=
  (if history.length ≥ Config.historyLength then history.tail else history) ++ [i]

/-- The next level up; level 3 has none. -/
def levelUp (l : Level) : Level := if h : l.val + 1 < 4 then ⟨l.val + 1, h⟩ else l

/-- The next level down; level 0 has none. -/
def levelDown (l : Level) : Level := ⟨l.val - 1, by omega⟩

/-- A copy of a profile into the active control sets the thinning accumulator to 0 (R79). -/
def Group.copyControl (c : Control) (r : Group) : Group := { r with control := c, thinning := 0 }

/-- Starts or restarts the quiet timer (R74). -/
def Group.startQuiet (window : Nat) (now : Tick) (r : Group) : Group :=
  { r with quiet := some ⟨window, now⟩ }

/-! ## Pressure events -/

/-- R82: inside hold-off the quiet timer restarts with its own window, 65,535 if it was stopped. -/
def Group.pressureInHoldOff (now : Tick) (r : Group) : Group :=
  r.startQuiet ((r.quiet.map QuietTimer.window).getD Config.longWindow) now

/-- R83: a measurement begins. -/
def Group.beginMeasurement (now : Tick) (r : Group) : Group :=
  { r with tLast := some now }.startQuiet Config.longWindow now

/-- R84: the capture joins the history, T_last becomes now and the quiet timer restarts with W. -/
def Group.capture (last now : Tick) (r : Group) : Group :=
  let history := pushCapture (captureOf last now) r.history
  { r with history := history, tLast := some now }.startQuiet
    (quietWindow (filteredInterval r.depth history) r.control.decay) now

/-- The step test: below level 3 and FI at or below STEP_INTERVAL (R84). -/
def Group.qualifies (r : Group) : Bool :=
  decide (r.level.val < 3) &&
    match r.fi with
    | none => false
    | some f => decide (f ≤ r.control.stepInterval)

/-- R85: a step up in AUTO, with `row` the group's profile set. -/
def Group.stepUp (row : Vector Control 4) (now : Tick) (r : Group) : Group :=
  let l := levelUp r.level
  let t := { r with level := l }.copyControl row[l]
  { t with
    holdOffEnd := holdOffFrom (r.fi.getD 0) t.control.holdOff now,
    change := .level }.startQuiet (quietWindow r.fi t.control.decay) now

/-- R86: an advisory up in HELD. -/
def Group.adviseUp (now : Tick) (r : Group) : Group :=
  { r with
    change := .adviseUp,
    holdOffEnd := holdOffFrom (r.fi.getD 0) r.control.holdOff now }

/-- A pressure event (R81): the record after it, and whether a change flag was set. -/
def Group.pressure (row : Vector Control 4) (now : Tick) (r : Group) : Group × Bool :=
  let r := { r with pressures := r.pressures + 1 }
  match r.holdOffEnd, r.tLast with
  | some _, _ => (r.pressureInHoldOff now, false)
  | none, none => (r.beginMeasurement now, false)
  | none, some last =>
    let c := r.capture last now
    if c.qualifies then
      match c.mode with
      | .auto => (c.stepUp row now, true)
      | .held => (c.adviseUp now, true)
    else (c, false)

/-! ## Quiet expiries and hold-off ends -/

/-- Whether the quiet timer has reached its window (R74). -/
def Group.quietDue (now : Tick) (r : Group) : Bool :=
  match r.quiet with
  | none => false
  | some q => decide (q.window ≤ elapsed q.start now)

/-- R89: rest. -/
def Group.rest (r : Group) : Group :=
  { r with history := [], tLast := none, holdOffEnd := none, quiet := none }

/-- R87: a step down in AUTO. -/
def Group.stepDown (row : Vector Control 4) (now : Tick) (r : Group) : Group :=
  let l := levelDown r.level
  let t := { r with level := l }.copyControl row[l]
  { t with change := .level }.startQuiet (quietWindow t.fi t.control.decay) now

/-- R88: an advisory down in HELD; the timer restarts with the window it was running with. -/
def Group.adviseDown (now : Tick) (r : Group) : Group :=
  { r with change := .adviseDown, quiet := r.quiet.map (fun q => { q with start := now }) }

/-- A quiet expiry: the record after it, and whether a change flag was set (R87 to R89). -/
def Group.quietExpiry (row : Vector Control 4) (now : Tick) (r : Group) : Group × Bool :=
  if r.level = 0 then (r.rest, false)
  else match r.mode with
    | .auto => (r.stepDown row now, true)
    | .held => (r.adviseDown now, true)

/-- The end of a hold-off: the hold-off end becomes none (R75). -/
def Group.endHoldOff (r : Group) : Group := { r with holdOffEnd := none }

/-- Whether the hold-off end equals now (R75). -/
def Group.holdOffDue (now : Tick) (r : Group) : Bool := r.holdOffEnd == some now

/-- The expiries of a group that this tick has brought and that are still to be taken, its hold-off end
and its quiet expiry (R74, R75): the record after them, and whether a change flag was set. -/
def Group.takeExpiries (row : Vector Control 4) (now : Tick) (r : Group) : Group × Bool :=
  let h := if r.holdOffDue now then r.endHoldOff else r
  if r.quietDue now then h.quietExpiry row now else (h, false)

/-- A group at rest: level 0 and quiet timer stopped (R73). -/
def Group.atRest (r : Group) : Bool := decide (r.level = 0) && r.quiet.isNone

/-! ## On the state -/

/-- An event of CM on a group: the record is replaced, and a change flag set sets the CHANGE cause
(R91). -/
def State.monitor (g : GroupId) (result : Group × Bool) (s : State) : State :=
  let t := s.setGroup g result.1
  if result.2 then t.raise .change else t

/-- A pressure event on a group (R81). -/
def State.pressure (g : GroupId) (s : State) : State :=
  let r := s.group g
  s.monitor g (r.pressure (s.profileRow r.profileSet) s.now)

/-- The expiries of a group that are due at this now (R74, R75). -/
def State.groupExpiries (s : State) (r : Group) : Group × Bool :=
  r.takeExpiries (s.profileRow r.profileSet) s.now

/-- Every expiry of a group that is due at this now is taken. They touch different records (R74), so they
are one replacement of the group records; a change flag set sets CHANGE (R91). -/
def State.takeGroupExpiries (s : State) : State :=
  let t : State := { s with groups := s.groups.map (fun r => (s.groupExpiries r).1) }
  if s.groups.toList.any (fun r => (s.groupExpiries r).2) then t.raise .change else t

/-- QUIET_EXPIRY: taken while the group's quiet timer has reached its window (R74, R87 to R89);
otherwise no expiry comes about. -/
def execQuietExpiry (g : GroupId) (s : State) : Answer :=
  let r := s.group g
  if r.quietDue s.now then
    .next (s.monitor g (r.quietExpiry (s.profileRow r.profileSet) s.now))
  else .next s

/-- HOLD_OFF_END: taken when the group's hold-off end equals now (R75); otherwise none comes about. -/
def execHoldOffEnd (g : GroupId) (s : State) : Answer :=
  let r := s.group g
  if r.holdOffDue s.now then .next (s.setGroup g r.endHoldOff) else .next s

/-! ## PROFILE_SET -/

/-- A named value in a field, clamped to its range (R78). -/
def setClamped (low high : Nat) (value : Option Nat) (old : Nat) : Nat :=
  match value with
  | some v => clamp low high v
  | none => old

/-- Whether a named value lies outside its range. -/
def outOfRange (low high : Nat) (value : Option Nat) : Bool :=
  match value with
  | some v => decide (v < low) || decide (high < v)
  | none => false

/-- An operand that a mask bit names. -/
def named (mask bit value : Nat) : Option Nat := if mask.testBit bit then some value else none

/-- PROFILE_SET (R77, R78): operands checked, named fields written clamped, the profile returned as
stored. -/
def profileSetRequest (c : FetchedCell) (s : State) : State :=
  match below 16 (c.operand 16 1), below 4 (c.operand 17 1) with
  | some n, some l =>
    let mask := c.operand 18 1
    if mask < 2 ^ 6 then
      let altAdmit := named mask 0 (c.operand 20 1)
      let reserve := named mask 1 (c.operand 26 2)
      let tier := named mask 2 (c.operand 21 1)
      let stepInterval := named mask 3 (c.operand 28 4)
      let holdOff := named mask 4 (c.operand 22 1)
      let decay := named mask 5 (c.operand 24 2)
      let old := (s.profileRow n)[l]
      let p : Control :=
        { altAdmit := setClamped 0 16 altAdmit old.altAdmit
          reserve := setClamped 0 4095 reserve old.reserve
          tier := Fin.ofNat 4 (setClamped 0 3 tier old.tier.val)
          stepInterval := setClamped 0 65535 stepInterval old.stepInterval
          holdOff := setClamped 0 127 holdOff old.holdOff
          decay := setClamped 8 255 decay old.decay }
      let clamped := outOfRange 0 16 altAdmit || outOfRange 0 4095 reserve || outOfRange 0 3 tier
        || outOfRange 0 65535 stepInterval || outOfRange 0 127 holdOff || outOfRange 8 255 decay
      (s.setProfile n l p).complete .ok
        [⟨64, 1, n⟩, ⟨65, 1, l⟩, ⟨66, 1, flags [clamped]⟩, ⟨68, 1, p.altAdmit⟩, ⟨69, 1, p.tier⟩,
          ⟨70, 1, p.holdOff⟩, ⟨71, 1, p.decay⟩, ⟨72, 2, p.reserve⟩, ⟨74, 2, p.stepInterval⟩]
    else s.complete .badOperand []
  | _, _ => s.complete .badOperand []

/-- PROFILE_SET. -/
def execProfileSet (s : State) : Answer := onRequest .profileSet profileSetRequest s

end Sys2Proof.Machine
end

