-- ==== Sys2Proof/Machine/Groups.lean ====
section
/-! DEFINITION. Trunk groups (chapter 5): occupancy, GROUP_SET and QUERY_GROUP. -/

namespace Sys2Proof.Machine

/-! ## Occupancy -/

/-- A claim on a group: BUSY and the seize counter gain 1 (R61, R64). -/
def State.claim (g : GroupId) (s : State) : State :=
  let r := s.group g
  s.setGroup g { r with busy := r.busy + 1, seizes := r.seizes + 1 }

/-- BUSY of a group falls by 1 (R62, R63). -/
def State.unclaim (g : GroupId) (s : State) : State :=
  let r := s.group g
  s.setGroup g { r with busy := r.busy - 1 }

/-! ## QUERY_GROUP -/

/-- The result fields of QUERY_GROUP; bit 4 of the flags is CLAMPED of a GROUP_SET (R69, R72). -/
def Group.resultFields (g : GroupId) (now : Tick) (clamped : Bool) (r : Group) : List Field :=
  [⟨64, 2, g⟩, ⟨66, 2, r.provisioned⟩, ⟨68, 2, r.busy⟩, ⟨70, 1, r.owner⟩, ⟨71, 1, r.profileSet⟩,
    ⟨72, 1, r.depth.value⟩, ⟨73, 1, r.level⟩,
    ⟨74, 1, flags [r.isOpen, r.mode == .held, r.atRest, r.fi.isSome, clamped]⟩,
    ⟨75, 1, r.change.code⟩, ⟨76, 1, r.control.altAdmit⟩, ⟨77, 1, r.control.tier⟩,
    ⟨78, 2, r.control.reserve⟩, ⟨80, 2, r.control.stepInterval⟩, ⟨82, 1, r.control.holdOff⟩,
    ⟨83, 1, r.control.decay⟩, ⟨84, 1, r.thinning⟩, ⟨85, 1, r.history.length⟩,
    ⟨86, 2, r.fi.getD 0⟩,
    ⟨88, 2, (r.quiet.map (fun q => q.window - elapsed q.start now)).getD 0⟩,
    ⟨90, 2, (r.holdOffEnd.map (elapsed now)).getD 0⟩,
    ⟨92, 4, r.seizes.toNat⟩, ⟨96, 4, r.pressures.toNat⟩]

/-- QUERY_GROUP (R72). -/
def queryGroupRequest (c : FetchedCell) (s : State) : State :=
  match below 512 (c.operand 16 2) with
  | none => s.complete .badOperand []
  | some g => s.complete .ok ((s.group g).resultFields g s.now false)

/-- QUERY_GROUP. -/
def execQueryGroup (s : State) : Answer := onRequest .queryGroup queryGroupRequest s

/-! ## GROUP_SET -/

/-- The operands of a GROUP_SET that has passed R65: a value for each item named that carries one, and
the three actions. -/
structure GroupRequest where
  group : GroupId
  provisioned : Option Nat
  owner : Option CarrierId
  profileSet : Option SetId
  depth : Option Depth
  mode : Option Mode
  level : Option Level
  isOpen : Option Bool
  reapply : Bool
  resetHistory : Bool
  clearCounts : Bool
  deriving DecidableEq, Repr

/-- An operand that must be good when the mask names it (R65): the outer none is BAD_OPERAND. -/
def checkedItem {α : Type} (mask bit : Nat) (value : Option α) : Option (Option α) :=
  match mask.testBit bit, value with
  | false, _ => some none
  | true, some v => some (some v)
  | true, none => none

/-- The operands of a GROUP_SET, none for BAD_OPERAND (R65). -/
def FetchedCell.groupRequest (c : FetchedCell) : Option GroupRequest :=
  let mask := c.operand 18 2
  if mask < 2 ^ 10 then
    match below 512 (c.operand 16 2), checkedItem mask 1 (below 64 (c.operand 22 1)),
        checkedItem mask 2 (below 16 (c.operand 23 1)), checkedItem mask 3 (depthOf (c.operand 24 1)),
        checkedItem mask 4 (modeOf (c.operand 25 1)), checkedItem mask 5 (below 4 (c.operand 26 1)),
        checkedItem mask 6 (twoValued (c.operand 27 1)) with
    | some g, some owner, some set, some depth, some mode, some level, some isOpen =>
      some
        { group := g
          provisioned := if mask.testBit 0 then some (c.operand 20 2) else none
          owner := owner, profileSet := set, depth := depth, mode := mode, level := level
          isOpen := isOpen
          reapply := mask.testBit 7, resetHistory := mask.testBit 8
          clearCounts := mask.testBit 9 }
    | _, _, _, _, _, _, _ => none
  else none

/-- LEVEL is taken only when the mode after the request is HELD (R66). -/
def GroupRequest.levelAllowed (q : GroupRequest) (r : Group) : Bool :=
  q.level.isNone || q.mode.getD r.mode == .held

/-- RESET_HISTORY (R68). -/
def Group.resetHistory (now : Tick) (r : Group) : Group :=
  let t := { r with history := [], tLast := none, holdOffEnd := none }
  if r.level = 0 then { t with quiet := none } else t.startQuiet Config.longWindow now

/-- LEVEL (R68). -/
def Group.writeLevel (l : Level) (row : Vector Control 4) (now : Tick) (r : Group) : Group :=
  let t := { r with level := l }.copyControl row[l]
  if r.quiet.isNone && l != 0 then t.startQuiet Config.longWindow now else t

/-- Items 1 to 6 of R67: the fields that are set and nothing more. -/
def GroupRequest.setFields (q : GroupRequest) (r : Group) : Group :=
  { r with
    provisioned := (q.provisioned.map (min 4095)).getD r.provisioned
    owner := q.owner.getD r.owner
    isOpen := q.isOpen.getD r.isOpen
    profileSet := q.profileSet.getD r.profileSet
    depth := q.depth.getD r.depth
    mode := q.mode.getD r.mode }

/-- The ten items in the order of R67, each on the record as the earlier ones left it; `row` is the
profile set after item 4. -/
def GroupRequest.apply (q : GroupRequest) (row : Vector Control 4) (now : Tick) (r : Group) :
    Group :=
  let r := q.setFields r
  let r := if q.resetHistory then r.resetHistory now else r
  let r := match q.level with
    | some l => r.writeLevel l row now
    | none => r
  let r := if q.reapply then r.copyControl row[r.level] else r
  if q.clearCounts then { r with seizes := 0, pressures := 0 } else r

/-- An accepted GROUP_SET is one event (R67). -/
def State.groupSet (q : GroupRequest) (s : State) : State :=
  let r := s.group q.group
  s.setGroup q.group (q.apply (s.profileRow (q.setFields r).profileSet) s.now r)

/-- PROVISIONED named with a value above 4095 is clamped (R65, R67). -/
def GroupRequest.clamped (q : GroupRequest) : Bool :=
  match q.provisioned with
  | some v => decide (4095 < v)
  | none => false

/-- GROUP_SET (R65 to R69). -/
def groupSetRequest (c : FetchedCell) (s : State) : State :=
  match c.groupRequest with
  | none => s.complete .badOperand []
  | some q =>
    if q.levelAllowed (s.group q.group) then
      let t := s.groupSet q
      t.complete .ok ((t.group q.group).resultFields q.group t.now q.clamped)
    else s.complete .badOperand []

/-- GROUP_SET. -/
def execGroupSet (s : State) : Answer := onRequest .groupSet groupSetRequest s

end Sys2Proof.Machine
end

