-- ==== Sys2Proof/Machine/Operands.lean ====
section
/-! DEFINITION. The structures the part reads, taken from their bytes (chapter 13, R34 to R36, R176), and
the operands of a SEIZE (R50, R96). Fields are read through their ranges; request operands are
checked at their full width. -/

namespace Sys2Proof.Machine

/-! ## The anchor block (section 13.1) -/

/-- The host half of the anchor block. -/
def anchorFieldsOf (data : List Byte) : AnchorFields :=
  { signature := leNat data 0 4
    pollPeriod := leNat data 4 1
    chainHead := addrAt data 8
    lowBound := addrAt data 16
    highBound := addrAt data 24
    destinationBase := addrAt data 32
    routeBase := addrAt data 40
    tariffBase := addrAt data 48
    mapBase := addrAt data 56
    routeCount := leNat data 64 2
    mapLength := leNat data 66 2 }

/-- A multiple of 128. -/
def Addr.cellAligned (a : Addr) : Bool := a.toNat % 128 == 0

/-- Whether a cell address is a multiple of 128 within the request area (R4, R14). -/
def AnchorFields.cellAddress (f : AnchorFields) (a : Addr) : Bool :=
  Addr.cellAligned a && decide (f.lowBound.toNat ≤ a.toNat) && decide (a.toNat < f.highBound.toNat)

/-- The checks of an anchor read (R4). -/
def AnchorFields.valid (f : AnchorFields) : Bool :=
  f.signature == Config.anchorSignature
    && Addr.cellAligned f.lowBound && Addr.cellAligned f.highBound
    && decide (f.lowBound.toNat < f.highBound.toNat)
    && f.cellAddress f.chainHead
    && decide (1 ≤ f.routeCount) && decide (f.routeCount ≤ 2048)
    && decide (1 ≤ f.mapLength) && decide (f.mapLength ≤ 1024)

/-! ## Cells (section 13.2) -/

/-- The status POSTED (section 13.2, R176). -/
def statusPosted (data : List Byte) : Bool := byteAt data 10 == 1

/-- What a cell fetch takes: kind, NOTIFY and the operand bytes 16..63 (R7). -/
def fetchedCellOf (data : List Byte) : FetchedCell :=
  { kind := byteAt data 8
    notify := flagAt data 9 0
    operands := readBytes 48 (data.drop 16) }

/-! ## Table lines (section 13.5) -/

/-- A refinement record (R34). -/
structure Refinement where
  length : Nat
  routeList : Nat
  distance : Distance
  digits : List Nat
  deriving DecidableEq, Repr

/-- An area entry as delivered (R34). -/
structure AreaEntry where
  valid : Bool
  routeList : Nat
  distance : Distance
  refinements : List Refinement
  deriving DecidableEq, Repr

/-- A tariff line as delivered (R36). -/
structure TariffLine where
  valid : Bool
  handoverSetup : Nat
  handoverRate : Nat
  transitSetup : Nat
  transitRate : Nat
  deriving DecidableEq, Repr

/-- Refinement n of an area entry, n from 0, through its ranges (R34). -/
def refinementOf (line : List Byte) (n : Nat) : Refinement :=
  let at0 := 8 + 12 * n
  { length := leNat line at0 1 % 8
    routeList := leNat line (at0 + 1) 2 % 2048
    distance := Fin.ofNat 8 (leNat line (at0 + 3) 1)
    digits := (List.range 5).map (fun j => leNat line (at0 + 4 + j) 1 % 16) }

/-- An area entry from its 64 bytes (R34). -/
def areaEntryOf (line : List Byte) : AreaEntry :=
  { valid := flagAt line 0 0
    routeList := leNat line 2 2 % 2048
    distance := Fin.ofNat 8 (leNat line 4 1)
    refinements := (List.range 4).map (refinementOf line) }

/-- Choice n of a route list, n from 1 (R35). -/
def choiceOf (line : List Byte) (n : Nat) : Choice :=
  let at0 := 8 + 8 * (n - 1)
  { number := n
    group := Fin.ofNat 512 (leNat line at0 2)
    alternate := flagAt line (at0 + 2) 0
    classMask := byteAt line (at0 + 3) }

/-- The choices of a route list from its 64 bytes, none when the list is empty and so absent; a count
of 7 is taken as 6 (R35). -/
def choicesOf (line : List Byte) : Option (List Choice) :=
  let count := min 6 (leNat line 0 1 % 8)
  if count = 0 then none else some ((List.range' 1 count).map (choiceOf line))

/-- A tariff line from its 16 bytes (R36). -/
def tariffLineOf (line : List Byte) : TariffLine :=
  { valid := flagAt line 0 0
    handoverSetup := leNat line 2 2
    handoverRate := leNat line 4 3
    transitSetup := leNat line 8 2
    transitRate := leNat line 10 3 }

/-! ## The operands of a SEIZE (R50, R96, section 13.3) -/

/-- Digit place `j`, from 0: four bits, the first of a byte in its low half. -/
def FetchedCell.digitPlace (c : FetchedCell) (j : Nat) : Nat :=
  c.operand (24 + j / 2) 1 / 16 ^ (j % 2) % 16

/-- The address operands, none when they fail a check of R50. -/
def FetchedCell.addressForm (c : FetchedCell) : Option AddressForm :=
  match c.operand 18 1 with
  | 0 =>
    let count := c.operand 19 1
    let dialled := (List.range count).map c.digitPlace
    if count ≤ 16 ∧ dialled.all (fun d => decide (d < 10)) then some (.digits dialled) else none
  | 1 =>
    match below 8 (c.operand 34 1) with
    | some d => if c.operand 32 2 < 2048 then some (.override (c.operand 32 2) d) else none
    | none => none
  | _ => none

/-- The operands of a SEIZE, none for BAD_OPERAND (R96). -/
def FetchedCell.seizeRequest (c : FetchedCell) : Option SeizeRequest :=
  match below 64 (c.operand 16 1), below 8 (c.operand 17 1), c.addressForm with
  | some incoming, some cls, some address =>
    some { incoming := incoming, cls := cls, ceiling := c.operand 20 4, address := address }
  | _, _, _ => none

/-! ## Handles (section 13.3, R119) -/

/-- The context index of a handle: its low 12 bits. -/
def handleIndex (handle : Nat) : CtxId := Fin.ofNat 4096 handle

/-- The generation of a handle: its high 4 bits. -/
def handleGeneration (handle : Nat) : BitVec 4 := BitVec.ofNat 4 (handle / 4096)

/-- The handle of a context index and a generation. -/
def handleOf (i : CtxId) (generation : BitVec 4) : Nat := generation.toNat * 4096 + i.val

end Sys2Proof.Machine
end

