-- ==== Sys2Proof/Machine/Agreements.lean ====
section
/-! DEFINITION. Carrier agreements (chapter 9): effective values, AGREE_SET, FREEZE, QUERY_CARRIER and
the handling at a period close. -/

namespace Sys2Proof.Machine

/-! ## Terms and effective values -/

/-- The terms of an agreement, named by their bits in the masks (section 13.4). -/
inductive Term where
  | active | minSeconds | increment | premium | creditLimit | grid
  deriving DecidableEq, Repr

/-- The bit of a term. -/
def Term.bit : Term → Nat
  | .active => 0
  | .minSeconds => 1
  | .increment => 2
  | .premium => 3
  | .creditLimit => 4
  | .grid => 5

/-- The agreement whose own value of a term a carrier uses: its own when it is carrier 0 or its
override bit is set, otherwise carrier 0's (R133). -/
def State.termSource (s : State) (t : Term) (c : CarrierId) : Agreement :=
  if c = 0 ∨ (s.agreement c).override.getLsbD t.bit = true then s.agreement c else s.agreement 0

/-- Effective MIN_SECONDS (R133). -/
def State.effMinSeconds (s : State) (c : CarrierId) : Nat := (s.termSource .minSeconds c).minSeconds

/-- Effective INCREMENT (R133). -/
def State.effIncrement (s : State) (c : CarrierId) : Nat := (s.termSource .increment c).increment

/-- Effective PREMIUM (R133). -/
def State.effPremium (s : State) (c : CarrierId) : Vector Nat 4 := (s.termSource .premium c).premium

/-- Effective CREDIT_LIMIT (R133). -/
def State.effCreditLimit (s : State) (c : CarrierId) : Nat :=
  (s.termSource .creditLimit c).creditLimit

/-- Effective GRID (R133). -/
def State.effGrid (s : State) (c : CarrierId) : Grid := (s.termSource .grid c).grid

/-- The fetch carrier of a tariff line (R38). -/
def State.fetchCarrier (s : State) (c : CarrierId) : CarrierId :=
  match s.effGrid c with
  | .own => c
  | .default => 0

/-! ## AGREE_SET -/

/-- The operands of an AGREE_SET that has passed R135: a value for each term the field mask names, and
the three other masks. -/
structure AgreeRequest where
  carrier : CarrierId
  fieldMask : TermBits
  overrideSet : TermBits
  overrideClear : TermBits
  fixMask : TermBits
  active : Option Bool
  minSeconds : Option Nat
  increment : Option Nat
  premium : Option (Vector Nat 4)
  creditLimit : Option Nat
  grid : Option Grid
  deriving DecidableEq, Repr

/-- An operand that must be good when a mask names it (R135): the outer none is BAD_OPERAND. -/
def checkedWhen {α : Type} (isNamed : Bool) (value : Option α) : Option (Option α) :=
  match isNamed, value with
  | false, _ => some none
  | true, some v => some (some v)
  | true, none => none

/-- Whether the four masks of an AGREE_SET pass R135: nothing outside the six terms, nothing outside
the five overridable terms in the override masks, no term in both of these. -/
def agreeMasksGood (field ovSet ovClear fix : Nat) : Bool :=
  decide (field < 2 ^ 6) && decide (fix < 2 ^ 6)
    && decide (ovSet < 2 ^ 6) && !ovSet.testBit 0
    && decide (ovClear < 2 ^ 6) && !ovClear.testBit 0
    && (ovSet &&& ovClear) == 0

/-- The operands of an AGREE_SET, none for BAD_OPERAND (R135). -/
def FetchedCell.agreeRequest (c : FetchedCell) : Option AgreeRequest :=
  let field := c.operand 17 1
  let ovSet := c.operand 18 1
  let ovClear := c.operand 19 1
  let fix := c.operand 20 1
  if agreeMasksGood field ovSet ovClear fix then
    match below 64 (c.operand 16 1),
        checkedWhen (field.testBit 0) (twoValued (c.operand 21 1)),
        checkedWhen (field.testBit 5) (gridOf (c.operand 22 1)) with
    | some carrier, some active, some grid =>
      some
        { carrier := carrier
          fieldMask := BitVec.ofNat 6 field
          overrideSet := BitVec.ofNat 6 ovSet
          overrideClear := BitVec.ofNat 6 ovClear
          fixMask := BitVec.ofNat 6 fix
          active := active
          minSeconds := if field.testBit 1 then some (c.operand 24 2) else none
          increment := if field.testBit 2 then some (c.operand 23 1) else none
          premium :=
            if field.testBit 3 then some (tabulate 4 (fun t => c.operand (26 + t) 1)) else none
          creditLimit := if field.testBit 4 then some (c.operand 32 6) else none
          grid := grid }
    | _, _, _ => none
  else none

/-- Every mask is empty (R136, R138). -/
def AgreeRequest.namesNothing (r : AgreeRequest) : Bool :=
  r.fieldMask == 0 && r.overrideSet == 0 && r.overrideClear == 0 && r.fixMask == 0

/-- The terms the field mask or an override mask names that are fixed (R136, R138). -/
def AgreeRequest.fixedTermsNamed (r : AgreeRequest) (a : Agreement) : TermBits :=
  (r.fieldMask ||| r.overrideSet ||| r.overrideClear) &&& a.fixed

/-- Whether a named value is clamped (R137). -/
def AgreeRequest.clamps (r : AgreeRequest) : Bool :=
  (match r.minSeconds with
    | some v => decide (600 < v)
    | none => false)
  || (match r.increment with
    | some v => decide (v < 1) || decide (60 < v)
    | none => false)
  || (match r.premium with
    | some v => v.toList.any (fun p => decide (p < 64))
    | none => false)

/-- The agreement after an accepted AGREE_SET: values, override bits, fixed flags, in this order
(R137). -/
def AgreeRequest.apply (r : AgreeRequest) (a : Agreement) : Agreement :=
  { active := r.active.getD a.active
    minSeconds := (r.minSeconds.map (min 600)).getD a.minSeconds
    increment := (r.increment.map (clamp 1 60)).getD a.increment
    premium := (r.premium.map (mapEntries (max 64))).getD a.premium
    creditLimit := r.creditLimit.getD a.creditLimit
    grid := r.grid.getD a.grid
    override := (a.override ||| r.overrideSet) &&& ~~~r.overrideClear
    fixed := a.fixed ||| r.fixMask }

/-- Whether a tag is one of the 32 TARIFF tags of a carrier (R46). -/
def carrierTariffTag (c : CarrierId) (t : Tag) : Bool :=
  t.kind == .tariff && t.index / 32 == c.val

/-- An accepted AGREE_SET: the agreement is written, and a changed own GRID drops the carrier's 32
TARIFF tags in the same event (R46, R137). -/
def State.agreeSet (r : AgreeRequest) (s : State) : State :=
  let a := s.agreement r.carrier
  let b := r.apply a
  let t := s.setAgreement r.carrier b
  if b.grid = a.grid then t else t.dropLines (carrierTariffTag r.carrier)

/-- The own values of an agreement as the AGREE_SET and QUERY_CARRIER results place them. -/
def premiumFields (offset : Nat) (p : Vector Nat 4) : List Field :=
  [⟨offset, 1, p[0]⟩, ⟨offset + 1, 1, p[1]⟩, ⟨offset + 2, 1, p[2]⟩, ⟨offset + 3, 1, p[3]⟩]

/-- AGREE_SET (R135 to R138). -/
def agreeSetRequest (c : FetchedCell) (s : State) : State :=
  match c.agreeRequest with
  | none => s.complete .badOperand []
  | some r =>
    let a := s.agreement r.carrier
    if s.agr.freezeInForce && !r.namesNothing then
      s.complete .frozen
        [⟨64, 1, r.carrier⟩,
          ⟨65, 1, flags [false, s.agr.freezePending, s.agr.freezeInForce]⟩]
    else if r.fixedTermsNamed a ≠ 0 then
      s.complete .fieldFixed
        [⟨64, 1, r.carrier⟩, ⟨67, 1, a.fixed.toNat⟩, ⟨78, 1, (r.fixedTermsNamed a).toNat⟩]
    else
      let t := s.agreeSet r
      let b := t.agreement r.carrier
      t.complete .ok
        ([⟨64, 1, r.carrier⟩,
          ⟨65, 1, flags [r.clamps, t.agr.freezePending, t.agr.freezeInForce]⟩,
          ⟨66, 1, b.override.toNat⟩, ⟨67, 1, b.fixed.toNat⟩, ⟨68, 1, b.active.toNat⟩,
          ⟨69, 1, b.grid.code⟩, ⟨70, 1, b.increment⟩, ⟨72, 2, b.minSeconds⟩]
          ++ premiumFields 74 b.premium ++ [⟨80, 8, b.creditLimit⟩])

/-- AGREE_SET. -/
def execAgreeSet (s : State) : Answer := onRequest .agreeSet agreeSetRequest s

/-! ## FREEZE and the period close -/

/-- FREEZE sets freeze-pending (R139). -/
def freezeRequest (_ : FetchedCell) (s : State) : State :=
  let t : State := { s with agr := { s.agr with freezePending := true } }
  t.complete .ok [⟨65, 1, flags [false, t.agr.freezePending, t.agr.freezeInForce]⟩]

/-- FREEZE. -/
def execFreeze (s : State) : Answer := onRequest .freeze freezeRequest s

/-- Every fixed flag of every agreement takes one value. -/
def AgreementTable.setFixed (fixed : TermBits) (t : AgreementTable) : AgreementTable :=
  { t with agreements := mapEntries (fun a => { a with fixed := fixed }) t.agreements }

/-- The close handling of the Agreement Table (R140). -/
def AgreementTable.close (t : AgreementTable) : AgreementTable :=
  match t.freezeInForce, t.freezePending with
  | false, false => t.setFixed 0
  | false, true => { t.setFixed 0b111111 with freezeInForce := true, freezePending := false }
  | true, _ => { t with freezePending := false }

/-! ## QUERY_CARRIER -/

/-- QUERY_CARRIER (R141). -/
def queryCarrierRequest (c : FetchedCell) (s : State) : State :=
  match below 64 (c.operand 16 1) with
  | none => s.complete .badOperand []
  | some n =>
    let a := s.agreement n
    let x := s.account n
    s.complete .ok
      ([⟨64, 1, n⟩, ⟨65, 1, flags [false, s.agr.freezePending, s.agr.freezeInForce, x.sat]⟩,
        ⟨66, 1, a.override.toNat⟩, ⟨67, 1, a.fixed.toNat⟩, ⟨68, 1, a.active.toNat⟩,
        ⟨69, 1, a.grid.code⟩, ⟨70, 1, a.increment⟩, ⟨71, 1, (s.effGrid n).code⟩,
        ⟨72, 2, a.minSeconds⟩, ⟨74, 2, s.effMinSeconds n⟩]
        ++ premiumFields 76 a.premium ++ premiumFields 80 (s.effPremium n)
        ++ [⟨84, 1, s.effIncrement n⟩, ⟨86, 6, a.creditLimit⟩, ⟨92, 6, s.effCreditLimit n⟩,
          ⟨98, 6, x.payable⟩, ⟨104, 6, x.receivable⟩, ⟨112, 4, x.outSeconds⟩,
          ⟨116, 4, x.inSeconds⟩, ⟨120, 4, x.outCalls⟩, ⟨124, 4, x.inCalls⟩])

/-- QUERY_CARRIER. -/
def execQueryCarrier (s : State) : Answer := onRequest .queryCarrier queryCarrierRequest s

end Sys2Proof.Machine
end

