-- ==== Sys2Proof/Machine/Journal.lean ====
section
/-! DEFINITION. The Journal Writer (chapter 11): opening pages, writing records, prefetching, closing,
the expansion of a period end, faults and resumption. -/

namespace Sys2Proof.Machine

/-! ## Records as bytes (section 13.6) -/

/-- A CHARGE record. -/
def ChargeRecord.fields (r : ChargeRecord) : List Field :=
  [⟨0, 1, 1⟩, ⟨1, 1, flags [r.clamped]⟩, ⟨2, 1, r.cause.code⟩, ⟨3, 1, r.tier⟩, ⟨4, 1, r.band⟩,
    ⟨5, 1, r.distance⟩, ⟨6, 2, r.handle⟩, ⟨8, 2, r.group⟩, ⟨10, 2, r.routeList⟩,
    ⟨12, 1, r.choice⟩, ⟨13, 1, r.crankbacks⟩, ⟨14, 1, r.incoming⟩, ⟨15, 1, r.owner⟩,
    ⟨16, 4, r.answerTime⟩, ⟨20, 4, r.duration⟩, ⟨24, 4, r.billedOut⟩, ⟨28, 4, r.billedIn⟩,
    ⟨32, 8, r.payable⟩, ⟨40, 8, r.receivable⟩]

/-- A SUMMARY record of one carrier. -/
def summaryFields (carrier : Nat) (period : Word32) (a : Account) : List Field :=
  [⟨0, 1, 2⟩, ⟨1, 1, flags [a.sat]⟩, ⟨2, 1, carrier⟩, ⟨4, 4, period.toNat⟩, ⟨8, 8, a.payable⟩,
    ⟨16, 8, a.receivable⟩, ⟨24, 4, a.outSeconds⟩, ⟨28, 4, a.inSeconds⟩, ⟨32, 4, a.outCalls⟩,
    ⟨36, 4, a.inCalls⟩]

/-- A PERIOD_END marker. -/
def markerFields (carriers : Nat) (period : Word32) (time : TimeOfWeek) : List Field :=
  [⟨0, 1, 3⟩, ⟨2, 1, carriers⟩, ⟨4, 4, period.toNat⟩, ⟨8, 4, time⟩]

/-! ## The snapshot (R155, R165) -/

/-- A carrier is summarised when any total is not 0 or SAT is set (R154, R165). -/
def Account.summarised (a : Account) : Bool :=
  a.payable != 0 || a.receivable != 0 || a.outSeconds != 0 || a.inSeconds != 0 || a.outCalls != 0
    || a.inCalls != 0 || a.sat

/-- The number of carriers to summarise (R154). -/
def summarisedCount (accounts : Vector Account 64) : Nat :=
  accounts.toList.countP Account.summarised

/-- The account of a carrier in the snapshot. A PERIOD_END entry at the head has its snapshot held
(R153, R155); without one there is nothing to summarise. -/
def snapshotAccount (snapshot : Option Snapshot) (carrier : Nat) : Account :=
  match snapshot with
  | some p => p.accounts.toList.getD carrier Account.zero
  | none => Account.zero

/-- The first carrier from the cursor on that is summarised (R165). -/
def nextSummary (snapshot : Option Snapshot) (cursor : Nat) : Option Nat :=
  (List.range' cursor (64 - cursor)).find? (fun c => (snapshotAccount snapshot c).summarised)

/-! ## Accesses -/

/-- JW issues an access; it is then the one in flight (R158). -/
def State.issueJournal (op : JournalOp) (base : Addr) (offset : Nat) (t : Transfer) (s : State) :
    State :=
  { s with jw := { s.jw with flight := some ⟨op, ⟨base, offset, t⟩⟩ } }

/-- The address of a map entry; entries have 16 bytes (R159, section 13.5). Chapter 11 does not say what
a sum past 2^64 comes to; the model wraps it (DESIGN CHOICE, log entry 27). -/
def State.mapEntryAddress (s : State) (index : Nat) : Addr :=
  s.cc.anchor.mapBase + BitVec.ofNat 64 (index * 16)

/-- The map index after the one given (R163, R164). -/
def State.nextMapIndex (s : State) : Nat := (s.jw.mapIndex + 1) % s.cc.anchor.mapLength

/-- The address of a slot of the open page (section 13.6). No rule says what a sum past 2^64 comes to;
the model wraps it (DESIGN CHOICE, log entry 27). -/
def State.slotAddress (s : State) (slot : Nat) : Addr := s.jw.page + BitVec.ofNat 64 (slot * 64)

/-- An opening reads the map entry at the map index (R159). -/
def State.openPage (reread : Bool) (s : State) : State :=
  (s.enterJournal .opening).issueJournal (.opening reread) (s.mapEntryAddress s.jw.mapIndex) 0
    (.read 16)

/-- A record is written into the whole slot at the slot index (R162, R175). -/
def State.writeRecord (k : RecordKind) (fields : List Field) (s : State) : State :=
  s.issueJournal (.record k) (s.slotAddress s.jw.slot) 0 (.write (layout 0 64 fields))

/-- The record count, header byte 4, is written as the slot index (R162, R175). -/
def State.writeCount (k : RecordKind) (s : State) : State :=
  s.issueJournal (.count k) s.jw.page 4 (.write (layout 4 1 [⟨4, 1, s.jw.slot⟩]))

/-- Step 1 of a close: the closing header, the whole of slot 0 (R164, R175). -/
def State.writeHeader (s : State) : State :=
  s.issueJournal .header s.jw.page 0
    (.write (layout 0 64 [⟨0, 4, s.jw.sequence.toNat⟩, ⟨4, 1, s.jw.slot⟩,
      ⟨5, 1, s.jw.close.code⟩, ⟨8, 4, s.jw.period.toNat⟩]))

/-- The prefetch reads the map entry after the map index (R163). -/
def State.issuePrefetch (s : State) : State :=
  s.issueJournal .prefetch (s.mapEntryAddress s.nextMapIndex) 0 (.read 16)

/-- In RUNNING with no access in flight JW takes its next step: a pending close (R164), the head entry
of the hold store (R162), or the expansion of a PERIOD_END entry (R165). With nothing to do it
waits with the page open. A marker that is written is not written again after a resumption, whatever
became of the prefetch after its slot 48: JW goes on to the PERIOD_END close (DEDUCED, log entry 25). -/
def State.journalAdvance (s : State) : State :=
  if s.jw.state = .running ∧ s.jw.flight = none then
    match s.jw.close with
    | .full => s.writeHeader
    | .periodEnd => s.writeHeader
    | .none =>
      match s.jw.hold with
      | [] => s
      | .charge r :: _ => s.writeRecord .charge r.fields
      | .periodEnd p :: _ =>
        if s.jw.cursor.markerWritten then
          State.writeHeader { s with jw := { s.jw with close := .periodEnd } }
        else
          match nextSummary s.jw.snapshot s.jw.cursor.carrier with
          | some c =>
            State.writeRecord .summary
              (summaryFields c s.jw.period (snapshotAccount s.jw.snapshot c))
              { s with jw := { s.jw with cursor := { s.jw.cursor with carrier := c } } }
          | none =>
            State.writeRecord .marker
              (markerFields ((s.jw.snapshot.map (fun p => summarisedCount p.accounts)).getD 0) p
                s.tb.timeOfWeek)
              { s with jw := { s.jw with cursor := { s.jw.cursor with carrier := 64 } } }
  else s

/-- An entry is placed at the tail of the hold store, whatever the journal state, and wakes a JW that
is idle in RUNNING (R161, R162). -/
def State.placeHold (e : HoldEntry) (s : State) : State :=
  State.journalAdvance { s with jw := { s.jw with hold := s.jw.hold ++ [e] } }

/-- Whether the hold store has a free entry (R161). -/
def State.holdFree (s : State) : Bool := decide (s.jw.hold.length < Config.holdStoreEntries)

/-! ## The end of a close, and taking JW out of a state -/

/-- The completion of a period at step 4 of its close: the PERIOD_END entry leaves, the snapshot
becomes free, the journal period rises, the cursor returns and ATTN PERIOD is set (R165). -/
def State.completePeriod (s : State) : State :=
  State.raise .period { s with
    jw := { s.jw with
      hold := (match s.jw.hold with
        | .periodEnd _ :: rest => rest
        | h => h),
      snapshot := none,
      period := s.jw.period + 1,
      cursor := { carrier := 0, markerWritten := false } } }

/-- Step 4 of a close, save the opening: ATTN PAGE, and the period's completion for a PERIOD_END close
(R164). -/
def State.finishClose (periodEnd : Bool) (s : State) : State :=
  let t := s.raise .page
  if periodEnd then t.completePeriod else t

/-- The step 4 that the end of an access in flight brings when it is the engine-half write (R164). -/
def State.finishCloseOf (f : Option JournalFlight) (s : State) : State :=
  match f with
  | some ⟨.engineWrite periodEnd, _⟩ => s.finishClose periodEnd
  | _ => s

/-- The effect of a RESTART on JW: step 4 of a close whose engine-half write is abandoned, the access
in flight abandoned, journal nudge-seen cleared, the prefetch result discarded, JW IDLE (R167). -/
def State.restartJournal (s : State) : State :=
  let t := s.finishCloseOf s.jw.flight
  { t with
    jw := { t.jw with
      flight := none,
      abandoned := abandonedAfter t.jw.abandoned (t.jw.flight.map JournalFlight.access),
      nudgeSeen := false,
      prefetch := none } }.enterJournal .idle

/-- A START with position-valid set takes JW out of IDLE or FAULTED; in another state it goes on
(R160). -/
def State.startJournal (s : State) : State :=
  match s.jw.state with
  | .idle => { s with jw := { s.jw with nudgeSeen := false, prefetch := none } }.openPage false
  | .faulted => { s with jw := { s.jw with nudgeSeen := false, prefetch := none } }.openPage false
  | .opening => s
  | .running => s
  | .waitingPage => s

/-- A valid anchor read takes JW out of IDLE or FAULTED, or restarts and reopens it, under the new map;
a map index at or above the new length becomes 0 (R160). The anchor read is the one whose engine
half JW writes from now on (section 11.2). -/
def State.reopenJournal (s : State) : State :=
  let t := s.restartJournal
  State.openPage false { t with
    jw := { t.jw with
      mapIndex := if t.jw.mapIndex ≥ t.cc.anchor.mapLength then 0 else t.jw.mapIndex,
      anchor := t.anchorAddress } }

/-- A NUDGE reaches JW (R159). -/
def State.nudgeJournal (s : State) : State :=
  match s.jw.state with
  | .waitingPage => s.openPage true
  | .opening => { s with jw := { s.jw with nudgeSeen := true } }
  | .running => { s with jw := { s.jw with nudgeSeen := true } }
  | .idle => s
  | .faulted => s

/-! ## Map entries -/

/-- A map entry as read (section 13.5). -/
def mapEntryOf (data : List Byte) : MapEntry :=
  { valid := flagAt data 8 0, page := addrAt data 0 }

/-- JW runs in a page whose entry was read as VALID (R159). -/
def State.enterPage (page : Addr) (s : State) : State :=
  State.journalAdvance ({ s with jw := { s.jw with page := page, flight := none } }.enterJournal
    .running)

/-- Entry to WAITING_PAGE: JSTALL unless the opening was a re-read, and journal nudge-seen opens again
at once (R159). -/
def State.waitForPage (reread : Bool) (s : State) : State :=
  let t := { s with jw := { s.jw with flight := none } }.enterJournal .waitingPage
  let t := if reread then t else t.raise .jstall
  if t.jw.nudgeSeen then { t with jw := { t.jw with nudgeSeen := false } }.openPage true else t

/-- The opening of the next page after a close, from the prefetch result when that holds VALID (R163,
R164). -/
def State.openAfterClose (s : State) : State :=
  let t := { s with jw := { s.jw with prefetch := none, flight := none } }
  match s.jw.prefetch with
  | some ⟨true, page⟩ => t.enterPage page
  | _ => t.openPage false

/-! ## The events -/

/-- OPENING_READ_END (R159, R166). -/
def execOpeningReadEnd (data : List Byte) (s : State) : Answer :=
  match s.jw.flight with
  | some ⟨.opening reread, _⟩ =>
    let e := mapEntryOf data
    .next (if e.valid then s.enterPage e.page else s.waitForPage reread)
  | _ => .next s

/-- RECORD_WRITE_END: the record count write follows (R162). -/
def execRecordWriteEnd (s : State) : Answer :=
  match s.jw.flight with
  | some ⟨.record k, _⟩ => .next (s.writeCount k)
  | _ => .next s

/-- What leaves or moves when the count write of a record has ended: a CHARGE record leaves the hold
store, a summary's carrier is passed, the marker is written (R162, R165). -/
def State.recordCounted (k : RecordKind) (s : State) : State :=
  match k with
  | .charge => { s with
      jw := { s.jw with
        hold := (match s.jw.hold with
          | .charge _ :: rest => rest
          | h => h) } }
  | .summary =>
    { s with jw := { s.jw with cursor := { s.jw.cursor with carrier := s.jw.cursor.carrier + 1 } } }
  | .marker => { s with jw := { s.jw with cursor := { s.jw.cursor with markerWritten := true } } }

/-- After the count write: the prefetch at slot 48, the close at slot 63, or the next slot (R162,
R163). The marker's slot is the last of its page, so the slot index stays on it: it is the record
count of the closing header (R164, R175, log entry 11). -/
def State.afterCount (k : RecordKind) (s : State) : State :=
  match k with
  | .marker =>
    if s.jw.slot = Config.prefetchSlot then s.issuePrefetch else s.journalAdvance
  | _ =>
    if s.jw.slot = Config.lastSlot then
      State.journalAdvance { s with jw := { s.jw with close := .full } }
    else
      let t := { s with jw := { s.jw with slot := s.jw.slot + 1 } }
      if s.jw.slot = Config.prefetchSlot then t.issuePrefetch else t.journalAdvance

/-- RECORD_COUNT_WRITE_END (R162, R165). -/
def execRecordCountWriteEnd (s : State) : Answer :=
  match s.jw.flight with
  | some ⟨.count k, _⟩ =>
    .next (State.afterCount k (State.recordCounted k { s with jw := { s.jw with flight := none } }))
  | _ => .next s

/-- PREFETCH_READ_END: the entry read becomes the prefetch result and JW goes on (R163). -/
def execPrefetchReadEnd (data : List Byte) (s : State) : Answer :=
  match s.jw.flight with
  | some ⟨.prefetch, _⟩ =>
    .next (State.journalAdvance
      { s with jw := { s.jw with flight := none, prefetch := some (mapEntryOf data) } })
  | _ => .next s

/-- CLOSING_HEADER_WRITE_END: step 2 of the close, the map entry's VALID is cleared, byte 8 of the
entry (R164, R175). -/
def execClosingHeaderWriteEnd (s : State) : Answer :=
  match s.jw.flight with
  | some ⟨.header, _⟩ =>
    .next (s.issueJournal .mapClear (s.mapEntryAddress s.jw.mapIndex) 8 (.write (layout 8 1 [])))
  | _ => .next s

/-- MAP_ENTRY_CLEAR_END: step 3 of the close. With a map length of 1 the prefetch result is discarded
(R163). The engine half takes the new index, the new sequence and the open period, anchor bytes
140..151 (R164, R175). -/
def execMapEntryClearEnd (s : State) : Answer :=
  match s.jw.flight with
  | some ⟨.mapClear, _⟩ =>
    let index := s.nextMapIndex
    let sequence := s.jw.sequence + 1
    .next (State.issueJournal (.engineWrite (s.jw.close == .periodEnd)) s.jw.anchor 140
      (.write (layout 140 12
        [⟨140, 2, index⟩, ⟨144, 4, sequence.toNat⟩, ⟨148, 4, s.ru.period.toNat⟩]))
      { s with
        jw := { s.jw with
          sequence := sequence, mapIndex := index, slot := 1, close := .none,
          prefetch := if s.cc.anchor.mapLength = 1 then none else s.jw.prefetch } })
  | _ => .next s

/-- JOURNAL_ENGINE_WRITE_END: step 4 of the close, and the next opening (R164). -/
def execJournalEngineWriteEnd (s : State) : Answer :=
  match s.jw.flight with
  | some ⟨.engineWrite periodEnd, _⟩ => .next (s.finishClose periodEnd).openAfterClose
  | _ => .next s

/-- A journal fault: offered to the capture with agent JOURNAL and the structure's address, JW goes to
FAULTED; when the engine-half write ends in it, step 4 of the close is taken (R158, R164). -/
def State.journalFault (kind : FaultKind) (f : JournalFlight) (s : State) : State :=
  let t := (s.offerFault kind .journal f.access.base).finishCloseOf (some f)
  { t with jw := { t.jw with flight := none } }.enterJournal .faulted

/-- JOURNAL_ERROR_REPLY: the access in flight ends in an ERROR_REPLY fault (R158). -/
def execJournalErrorReply (s : State) : Answer :=
  match s.jw.flight with
  | some f => .next (s.journalFault .errorReply f)
  | none => .next s

/-- JOURNAL_NO_REPLY: the read in flight ends in a NO_REPLY fault (R158). -/
def execJournalNoReply (s : State) : Answer :=
  match s.jw.flight with
  | some f => .next (if f.access.isWrite then s else s.journalFault .noReply f)
  | none => .next s

/-- JOURNAL_ABANDONED_WRITE_ERROR: the report is offered to the capture with agent JOURNAL; the journal
state does not change (R158). -/
def execJournalAbandonedWriteError (n : Nat) (s : State) : Answer :=
  match s.jw.abandoned[n]? with
  | some a =>
    .next (State.offerFault .errorReply .journal a.base
      { s with jw := { s.jw with abandoned := s.jw.abandoned.eraseIdx n } })
  | none => .next s

end Sys2Proof.Machine
end

