-- ==== Sys2Proof/Machine/Settlement.lean ====
section
/-! DEFINITION. Handover pricing and settlement (chapter 10): the quote, the charge, accumulation with
saturation, and the close of a period. -/

namespace Sys2Proof.Machine

/-! ## The quote -/

/-- Q = floor((H × p + 64) / 128) (R143). -/
def quoteOf (handoverRate premium : Nat) : Nat := (handoverRate * premium + 64) / 128

/-! ## The charge -/

/-- The charged seconds S of a duration in ticks (R145). -/
def chargedSeconds (ticks : Nat) : Nat := (ticks + 99) / 100

/-- ceil(x / y) (ch. 0, Numbers). -/
def ceilDiv (x y : Nat) : Nat := (x + y - 1) / y

/-- The billed seconds of one side before the clamp (R146). -/
def billedUnclamped (seconds minimum increment : Nat) : Nat :=
  if seconds ≤ minimum then minimum
  else minimum + ceilDiv (seconds - minimum) increment * increment

/-- The billed seconds of one side (R146). -/
def billedSeconds (seconds minimum increment : Nat) : Nat :=
  min (billedUnclamped seconds minimum increment) Config.billedLimit

/-- An amount: the setup fee and the billed seconds at a rate per minute, rounded to the nearest unit,
halves up (R147). -/
def amountOf (setup billed rate : Nat) : Nat := setup + (billed * rate + 30) / 60

/-- The charge of a call from its answer tick to a release tick, from frozen values alone (R144 to
R147), as the CHARGE record that carries it (R150). An ANSWERED context has an answer tick and an
answer time (R121). -/
def Context.charge (i : CtxId) (c : Context) (r : PendingRelease) : ChargeRecord :=
  let ticks := elapsed (c.answerTick.getD 0) r.releaseTick
  let seconds := chargedSeconds ticks
  let billedOut := billedSeconds seconds c.minOut c.incOut
  let billedIn := billedSeconds seconds c.minIn c.incIn
  { clamped := decide (Config.billedLimit < billedUnclamped seconds c.minOut c.incOut)
      || decide (Config.billedLimit < billedUnclamped seconds c.minIn c.incIn)
    cause := r.cause
    tier := c.tier
    band := c.band
    distance := c.distance
    handle := handleOf i c.generation
    group := c.group
    routeList := c.routeList
    choice := c.choice
    crankbacks := c.crankbacks
    incoming := c.incoming
    owner := c.owner
    answerTime := (c.answerTime.getD 0).val
    duration := ticks
    billedOut := billedOut
    billedIn := billedIn
    payable := amountOf c.handoverSetup billedOut c.quote
    receivable := amountOf c.transitSetup billedIn c.transitRate }

/-! ## Accumulation -/

/-- A saturating addition (R149). -/
def satAdd (limit total x : Nat) : Nat := if limit < total + x then limit else total + x

/-- Whether an addition saturates and so sets SAT (R149). -/
def saturates (limit total x : Nat) : Bool := decide (limit < total + x)

/-- The owner's side of a charge (R148). -/
def Account.addOut (amount seconds : Nat) (a : Account) : Account :=
  { a with
    payable := satAdd Config.amountLimit a.payable amount
    outSeconds := satAdd Config.countLimit a.outSeconds seconds
    outCalls := satAdd Config.countLimit a.outCalls 1
    sat := a.sat || saturates Config.amountLimit a.payable amount
      || saturates Config.countLimit a.outSeconds seconds
      || saturates Config.countLimit a.outCalls 1 }

/-- The incoming carrier's side of a charge (R148). -/
def Account.addIn (amount seconds : Nat) (a : Account) : Account :=
  { a with
    receivable := satAdd Config.amountLimit a.receivable amount
    inSeconds := satAdd Config.countLimit a.inSeconds seconds
    inCalls := satAdd Config.countLimit a.inCalls 1
    sat := a.sat || saturates Config.amountLimit a.receivable amount
      || saturates Config.countLimit a.inSeconds seconds
      || saturates Config.countLimit a.inCalls 1 }

/-- A charge is added to the owner's and to the incoming carrier's accumulators; the two may be one
set (R148). -/
def State.accumulate (r : ChargeRecord) (s : State) : State :=
  let t := s.setAccount r.owner ((s.account r.owner).addOut r.payable r.billedOut)
  t.setAccount r.incoming ((t.account r.incoming).addIn r.receivable r.billedIn)

/-! ## PERIOD_CLOSE -/

/-- PERIOD_CLOSE has what it needs: a free snapshot and a free hold-store entry (R152). -/
def State.closeReady (s : State) : Bool := s.jw.snapshot.isNone && s.holdFree

/-- The close event (R153): snapshot, zeroing, agreements, marker entry, period number. -/
def State.closeEvent (s : State) : State :=
  let closed := s.ru.period
  let t : State := { s with
    jw := { s.jw with snapshot := some { period := closed, accounts := s.ru.accounts } },
    ru := { accounts := Vector.replicate 64 Account.zero, period := closed + 1 },
    agr := s.agr.close }
  t.placeHold (.periodEnd closed)

/-- The close event and the completion of the cell (R154). -/
def State.closePeriod (s : State) : State :=
  let t := s.closeEvent
  t.complete .ok
    [⟨64, 4, s.ru.period.toNat⟩, ⟨68, 4, t.ru.period.toNat⟩,
      ⟨72, 1, summarisedCount s.ru.accounts⟩,
      ⟨73, 1, flags [false, t.agr.freezePending, t.agr.freezeInForce]⟩]

/-- PERIOD_CLOSE: the close event at once, or STALLED (R152). -/
def periodCloseRequest (_ : FetchedCell) (s : State) : State :=
  if s.closeReady then s.closePeriod
  else State.enterChain .stalled { s with cc := { s.cc with work := .stalledClose } }

/-- PERIOD_CLOSE. -/
def execPeriodClose (s : State) : Answer := onRequest .periodClose periodCloseRequest s

end Sys2Proof.Machine
end

