-- ==== Sys2Proof/Machine/Contexts.lean ====
section
/-! DEFINITION. Call contexts (chapter 8): handles and freeing, ANSWER, RELEASE, the answer limit,
REPORT_CHANGES, QUERY_CONTEXT, and the resumption of a STALLED cell. -/

namespace Sys2Proof.Machine

/-! ## Handles and freeing -/

/-- A context that holds a call (ch. 8). -/
def Context.live (c : Context) : Bool := c.state != .free

/-- A handle is valid when the context at its index is live and has its generation (R119). -/
def State.handleValid (s : State) (handle : Nat) : Bool :=
  let c := s.context (handleIndex handle)
  c.live && c.generation == handleGeneration handle

/-- The fields of a STALE_HANDLE or WRONG_STATE result (R119, section 13.3). -/
def State.handleRefusal (s : State) (handle : Nat) : List Field :=
  let c := s.context (handleIndex handle)
  [⟨64, 2, handle⟩, ⟨66, 1, c.state.code⟩, ⟨67, 1, c.generation.toNat⟩]

/-- The freed context: FREE, generation advanced, both overdue marks clear, the other fields kept
(R120). -/
def Context.freed (c : Context) : Context :=
  { c with
    state := .free, generation := c.generation + 1, overdue := false, overdueReported := false }

/-- Freeing a context (R120): it becomes FREE, joins the tail of the free FIFO, and its group's BUSY
falls. A context is freed only from SEIZED or ANSWERED (R118). -/
def State.freeContext (i : CtxId) (s : State) : State :=
  let c := s.context i
  if c.live then
    ((s.setContext i c.freed).setFifo (s.ct.freeFifo ++ [i])).unclaim c.group
  else s

/-! ## ANSWER -/

/-- The tick an event age before now, no earlier than a reference tick; whether it was clamped (R121,
R122). -/
def agedTick (reference now : Tick) (age : Nat) : Tick × Bool :=
  if elapsed reference now < age then (reference, true) else (now - BitVec.ofNat 32 age, false)

/-- ANSWER (R121). -/
def answerRequest (c : FetchedCell) (s : State) : State :=
  let handle := c.operand 16 2
  let i := handleIndex handle
  let x := s.context i
  if !s.handleValid handle then s.complete .staleHandle (s.handleRefusal handle)
  else if x.state = .answered then
    s.complete .wrongState
      (s.handleRefusal handle ++ [⟨68, 4, (x.answerTick.getD 0).toNat⟩])
  else
    let a := agedTick x.seizeTick s.now (c.operand 18 1)
    let t := s.setContext i
      { x with
        state := .answered, answerTick := some a.1, answerTime := some s.tb.timeOfWeek,
        overdue := false, overdueReported := false }
    t.complete .ok
      [⟨64, 2, handle⟩, ⟨66, 1, flags [a.2]⟩, ⟨68, 4, a.1.toNat⟩, ⟨72, 4, s.tb.timeOfWeek⟩,
        ⟨76, 4, x.seizeTick.toNat⟩]

/-- ANSWER. -/
def execAnswer (s : State) : Answer := onRequest .answer answerRequest s

/-! ## RELEASE -/

/-- The charge event of a RELEASE (R124): charge, accumulation, CHARGE record, freeing. -/
def State.chargeEvent (r : PendingRelease) (s : State) : State :=
  let record := (s.context r.ctx).charge r.ctx r
  ((s.accumulate record).placeHold (.charge record)).freeContext r.ctx

/-- The charge event and the completion of the cell (R124). -/
def State.chargeRelease (r : PendingRelease) (s : State) : State :=
  let record := (s.context r.ctx).charge r.ctx r
  (s.chargeEvent r).complete .ok
    [⟨64, 2, record.handle⟩, ⟨66, 2, record.group⟩, ⟨68, 1, record.owner⟩,
      ⟨69, 1, record.incoming⟩, ⟨70, 1, r.cause.code⟩,
      ⟨71, 1, flags [true, r.ageClamped, record.clamped]⟩, ⟨72, 4, r.releaseTick.toNat⟩,
      ⟨76, 4, record.duration⟩, ⟨80, 4, record.billedOut⟩, ⟨84, 4, record.billedIn⟩,
      ⟨88, 8, record.payable⟩, ⟨96, 8, record.receivable⟩]

/-- The release of a SEIZED context is not charged (R123). -/
def State.releaseUncharged (r : PendingRelease) (s : State) : State :=
  let x := s.context r.ctx
  let t := if r.cause = .farCongestion then s.pressure x.group else s
  (t.freeContext r.ctx).complete .ok
    [⟨64, 2, handleOf r.ctx x.generation⟩, ⟨66, 2, x.group⟩, ⟨70, 1, r.cause.code⟩,
      ⟨71, 1, flags [false, r.ageClamped]⟩, ⟨72, 4, r.releaseTick.toNat⟩]

/-- RELEASE (R122): operands, handle, release tick, then by the state of the context. -/
def releaseRequest (c : FetchedCell) (s : State) : State :=
  match releaseCause (c.operand 18 1) with
  | none => s.complete .badOperand []
  | some cause =>
    let handle := c.operand 16 2
    let i := handleIndex handle
    let x := s.context i
    if !s.handleValid handle then s.complete .staleHandle (s.handleRefusal handle)
    else if x.state = .answered then
      let a := agedTick (x.answerTick.getD 0) s.now (c.operand 19 1)
      let r : PendingRelease := { ctx := i, cause := cause, releaseTick := a.1, ageClamped := a.2 }
      if s.holdFree then s.chargeRelease r
      else State.enterChain .stalled { s with cc := { s.cc with work := .stalledRelease r } }
    else
      let a := agedTick x.seizeTick s.now (c.operand 19 1)
      s.releaseUncharged { ctx := i, cause := cause, releaseTick := a.1, ageClamped := a.2 }

/-- RELEASE. -/
def execRelease (s : State) : Answer := onRequest .release releaseRequest s

/-! ## Leaving STALLED -/

/-- STALLED_CELL_RESUME: once what the STALLED cell waits for is free, the request takes its single
event and the chain returns to WORKING (R9, log entry 7). -/
def execStalledCellResume (s : State) : Answer :=
  if s.cc.state = .stalled then
    match s.cc.work with
    | .stalledRelease r => .next (if s.holdFree then s.chargeRelease r else s)
    | .stalledClose => .next (if s.closeReady then s.closePeriod else s)
    | _ => .next s
  else .next s

/-! ## The answer limit -/

/-- The overdue check of a context against a limit: the limit is not 0, the context is SEIZED with both
marks clear, and its age has reached the limit (R125). -/
def Context.overdueAt (limit : Nat) (now : Tick) (c : Context) : Bool :=
  limit != 0 && c.state == .seized && !c.overdue && !c.overdueReported
    && decide (limit * 100 ≤ elapsed c.seizeTick now)

/-- Whether an overdue expiry is due at this now: by the limit that the tick advance has read (R125), or
by the one an ENGINE_SET taken before the check has set (R130, log entry 5). -/
def State.overdueDue (i : CtxId) (s : State) : Bool :=
  let c := s.context i
  c.overdueAt s.ct.limitAtTick s.now || c.overdueAt s.ct.answerLimit s.now

/-- The overdue expiry of a context that the limit read at the tick makes due (R125). -/
def State.takeOverdue (s : State) (c : Context) : Context :=
  if c.overdueAt s.ct.limitAtTick s.now then { c with overdue := true } else c

/-- Every overdue expiry that the limit read at the tick makes due is taken; each sets CHANGE (R125). They
touch different records, so they are one replacement of the contexts. -/
def State.takeOverdueExpiries (s : State) : State :=
  let t : State := { s with ct := { s.ct with contexts := s.ct.contexts.map s.takeOverdue } }
  if s.ct.contexts.toList.any (Context.overdueAt s.ct.limitAtTick s.now) then t.raise .change
  else t

/-- OVERDUE_EXPIRY: the overdue flag and the CHANGE cause are set (R125); where none is due, none comes
about. -/
def execOverdueExpiry (i : CtxId) (s : State) : Answer :=
  if s.overdueDue i then
    .next ((s.setContext i { s.context i with overdue := true }).raise .change)
  else .next s

/-- The number of contexts in a state. -/
def State.countContexts (k : CallState) (s : State) : Nat :=
  s.ct.contexts.toList.countP (fun c => c.state == k)

/-- ENGINE_SET (R126). -/
def engineSetRequest (c : FetchedCell) (s : State) : State :=
  let set := c.flag 16
  let value := c.operand 18 2
  let limit := if set then min value 3600 else s.ct.answerLimit
  let t : State := { s with ct := { s.ct with answerLimit := limit } }
  t.complete .ok
    [⟨64, 2, s.ct.answerLimit⟩, ⟨66, 2, limit⟩, ⟨68, 1, flags [set && decide (3600 < value)]⟩,
      ⟨70, 2, s.ct.freeFifo.length⟩, ⟨72, 2, s.countContexts .seized⟩,
      ⟨74, 2, s.countContexts .answered⟩]

/-- ENGINE_SET. -/
def execEngineSet (s : State) : Answer := onRequest .engineSet engineSetRequest s

/-! ## REPORT_CHANGES -/

/-- What a REPORT_CHANGES entry is about: a group's change flag or a context's overdue flag (R127). -/
inductive Change where
  | group (g : GroupId)
  | context (i : CtxId)
  deriving DecidableEq, Repr

/-- Every set flag in scan order: groups ascending, then contexts ascending (R127). -/
def State.changes (s : State) : List Change :=
  ((List.finRange 512).filter (fun g => (s.group g).change != .none)).map Change.group
    ++ ((List.finRange 4096).filter (fun i => (s.context i).overdue)).map Change.context

/-- The result fields of entry n, which lies at cell byte 68 + 4 × n (R127, section 13.4). -/
def State.changeFields (s : State) (n : Nat) : Change → List Field
  | .group g =>
    [⟨68 + 4 * n, 1, (s.group g).change.code⟩, ⟨69 + 4 * n, 2, g⟩,
      ⟨71 + 4 * n, 1, (s.group g).level⟩]
  | .context i =>
    [⟨68 + 4 * n, 1, 4⟩, ⟨69 + 4 * n, 2, handleOf i (s.context i).generation⟩,
      ⟨71 + 4 * n, 1, CallState.seized.code⟩]

/-- The flag action of an entry: a change flag becomes NONE; an overdue flag is cleared and the
overdue reported mark set (R127). -/
def State.clearChange (s : State) : Change → State
  | .group g => s.setGroup g { s.group g with change := .none }
  | .context i => s.setContext i { s.context i with overdue := false, overdueReported := true }

/-- REPORT_CHANGES (R127). -/
def reportChangesRequest (_ : FetchedCell) (s : State) : State :=
  let taken := s.changes.take Config.reportEntries
  (taken.foldl State.clearChange s).complete .ok
    ([⟨64, 1, taken.length⟩,
      ⟨65, 1, flags [decide (Config.reportEntries < s.changes.length)]⟩]
      ++ (taken.zipIdx.map (fun e => s.changeFields e.2 e.1)).flatten)

/-- REPORT_CHANGES. -/
def execReportChanges (s : State) : Answer := onRequest .reportChanges reportChangesRequest s

/-! ## QUERY_CONTEXT -/

/-- QUERY_CONTEXT (R129). -/
def queryContextRequest (c : FetchedCell) (s : State) : State :=
  match below 4096 (c.operand 16 2) with
  | none => s.complete .badOperand []
  | some i =>
    let x := s.context i
    s.complete .ok
      [⟨64, 1, x.state.code⟩, ⟨65, 1, x.generation.toNat⟩, ⟨66, 2, handleOf i x.generation⟩,
        ⟨68, 1, x.incoming⟩, ⟨69, 1, x.cls⟩, ⟨70, 1, x.owner⟩, ⟨71, 1, x.tier⟩, ⟨72, 1, x.band⟩,
        ⟨73, 1, x.distance⟩, ⟨74, 1, x.choice⟩, ⟨75, 1, x.crankbacks⟩, ⟨76, 1, x.source.code⟩,
        ⟨77, 1, flags [x.overdue, x.overdueReported, x.answerTick.isSome]⟩, ⟨78, 2, x.group⟩,
        ⟨80, 2, x.routeList⟩, ⟨82, 2, x.handoverSetup⟩, ⟨84, 2, x.transitSetup⟩,
        ⟨86, 2, x.minOut⟩, ⟨88, 2, x.minIn⟩, ⟨90, 1, x.incOut⟩, ⟨91, 1, x.incIn⟩,
        ⟨92, 4, x.ceiling⟩, ⟨96, 4, x.quote⟩, ⟨100, 4, x.transitRate⟩,
        ⟨104, 4, x.seizeTick.toNat⟩, ⟨108, 4, (x.answerTick.getD 0).toNat⟩,
        ⟨112, 4, (x.answerTime.getD 0).val⟩,
        ⟨116, 4, if x.live then elapsed x.seizeTick s.now else 0⟩]

/-- QUERY_CONTEXT. -/
def execQueryContext (s : State) : Answer := onRequest .queryContext queryContextRequest s

end Sys2Proof.Machine
end

