-- ==== Sys2Proof/Machine/Timebase.lean ====
section
/-! DEFINITION. The Timebase (chapter 2): the tick advance, the poll tick and the poll expiry, band
lookup, CLOCK_SET and BAND_SET. -/

namespace Sys2Proof.Machine

/-! ## The week -/

/-- The day of a time of week, 0..6 (R27). -/
def dayOf (t : TimeOfWeek) : Nat := t.val / 8640000

/-- The half-hour of a time of week, 0..47 (R27). -/
def halfHourOf (t : TimeOfWeek) : Nat := t.val % 8640000 / 180000

/-- The band table entry of a time of week (R27). -/
def bandEntry (t : TimeOfWeek) : Fin 336 :=
  ⟨dayOf t * 48 + halfHourOf t, by have := t.isLt; unfold dayOf halfHourOf; omega⟩

/-- A band lookup (R27). -/
def Timebase.band (b : Timebase) : Band := b.bands[bandEntry b.timeOfWeek]

/-- The time of week one tick later (R25). -/
def nextTimeOfWeek (t : TimeOfWeek) : TimeOfWeek :=
  if h : t.val + 1 < 60480000 then ⟨t.val + 1, h⟩ else 0

/-! ## Ticks -/

/-- Both counts advance in one event, and the new monotonic count finds the answer limit as it now stands
(R25, R125). -/
def State.advanceTick (s : State) : State :=
  { s with
    tb := { s.tb with now := s.tb.now + 1, timeOfWeek := nextTimeOfWeek s.tb.timeOfWeek },
    ct := { s.ct with limitAtTick := s.ct.answerLimit } }

/-- TICK_ADVANCE (R25). The expiries that the new now makes due are events of their own at that now, and
QUIET_EXPIRY, HOLD_OFF_END and OVERDUE_EXPIRY take them one by one, in any order with the requests (R92,
R130). None outlasts its tick: those still due are taken here, at the now that made them due, before
the counts advance (R74, R75, R125, log entry 5). During a reset ticks do not advance (R174). -/
def execTickAdvance (s : State) : Answer :=
  if s.inReset then .next s
  else .next s.takeGroupExpiries.takeOverdueExpiries.advanceTick

/-- A poll expiry: the poll counter returns to 0; a WAITING chain reads its link and a WAITING_PAGE
Journal Writer re-reads the map entry (R17, R29, R30, R159). R30 lets the counter go on from 0 when JW
stands in WAITING_PAGE; the expiry itself takes JW to OPENING (R159), so by R29 counting ends and the
counter stays 0 until JW is WAITING_PAGE again (DEDUCED, log entry 23). -/
def State.pollExpiry (s : State) : State :=
  let t := { s with tb := { s.tb with pollCounter := 0 } }
  let t := if s.cc.state = .waiting then t.readLink else t
  if s.jw.state = .waitingPage then t.openPage true else t

/-- Whether the next poll tick reaches the poll period (R29). -/
def State.pollReaches (s : State) : Bool := decide (s.cc.anchor.pollPeriod ≤ s.tb.pollCounter + 1)

/-- POLL_TICK: while counting, the poll counter rises; the tick at which it reaches the poll period is
a poll expiry (R29, log entry 6). -/
def execPollTick (s : State) : Answer :=
  if s.pollCounting then
    if s.pollReaches then .next s.pollExpiry
    else .next { s with tb := { s.tb with pollCounter := s.tb.pollCounter + 1 } }
  else .next s

/-- POLL_EXPIRY: the poll tick that reaches the poll period (R29, R30, log entry 6). -/
def execPollExpiry (s : State) : Answer :=
  if s.pollCounting && s.pollReaches then .next s.pollExpiry else .next s

/-! ## CLOCK_SET -/

/-- CLOCK_SET (R31). -/
def clockSetRequest (c : FetchedCell) (s : State) : State :=
  let set := c.flag 16
  let value := c.operand 20 4
  if set && !decide (value < 60480000) then s.complete .badOperand []
  else
    let before := s.tb.timeOfWeek
    let after : TimeOfWeek := if set then Fin.ofNat 60480000 value else before
    let t : State := { s with tb := { s.tb with timeOfWeek := after } }
    t.complete .ok
      [⟨64, 4, s.tb.now.toNat⟩, ⟨68, 4, before⟩, ⟨72, 4, after⟩, ⟨76, 1, dayOf after⟩,
        ⟨77, 1, halfHourOf after⟩, ⟨78, 1, t.tb.band⟩]

/-- CLOCK_SET. -/
def execClockSet (s : State) : Answer := onRequest .clockSet clockSetRequest s

/-! ## BAND_SET -/

/-- The pattern a day follows: its selector (R32). -/
def FetchedCell.daySelector (c : FetchedCell) (day : Nat) : Nat := c.operand (52 + day) 1

/-- Band h of a pattern: two bits of a byte (section 13.4). -/
def FetchedCell.patternBand (c : FetchedCell) (pattern h : Nat) : Band :=
  Fin.ofNat 4 (c.operand (16 + 12 * pattern + h / 4) 1 / 4 ^ (h % 4))

/-- The band table from three day patterns and seven day selectors (R32). -/
def FetchedCell.bandTable (c : FetchedCell) : Vector Band 336 :=
  tabulate 336 (fun e => c.patternBand (c.daySelector (e / 48)) (e % 48))

/-- BAND_SET (R32). -/
def bandSetRequest (c : FetchedCell) (s : State) : State :=
  if (List.range 7).all (fun d => decide (c.daySelector d < 3)) then
    let t : State := { s with tb := { s.tb with bands := c.bandTable } }
    t.complete .ok
      [⟨64, 4, s.tb.timeOfWeek⟩, ⟨68, 1, dayOf s.tb.timeOfWeek⟩,
        ⟨69, 1, halfHourOf s.tb.timeOfWeek⟩, ⟨70, 1, t.tb.band⟩]
  else s.complete .badOperand []

/-- BAND_SET. -/
def execBandSet (s : State) : Answer := onRequest .bandSet bandSetRequest s

end Sys2Proof.Machine
end

