-- ==== Sys2Proof/Machine/Routing.lean ====
section
/-! DEFINITION. Destination analysis, route selection and crankback (chapters 4 and 7), and the ends of
the table fills they wait for (R40, R41). The first step of a SEIZE takes stages 1 to 7 and that of a
CRANKBACK its checks, its pressure event and its route list; each further step takes one choice of
the walk, or its end. At a missed line the end of the fill takes the request on. -/

namespace Sys2Proof.Machine

/-! ## Destination analysis (chapter 4) -/

/-- The analysis record of a refusal before an outcome is found (R58). -/
def Analysis.none (areaKey : Option Nat) : Analysis :=
  { source := .none, position := 0, areaKey := areaKey, routeList := 0, distance := 0 }

/-- The area key of the first three digits (R53). -/
def areaKeyOf (dialled : List Nat) : Nat :=
  dialled.getD 0 0 * 100 + dialled.getD 1 0 * 10 + dialled.getD 2 0

/-- Whether a refinement matches the dialled number: used, fitting, and agreeing digit by digit
(R55). -/
def Refinement.fits (r : Refinement) (dialled : List Nat) : Bool :=
  decide (1 ≤ r.length) && decide (r.length ≤ 5) && decide (3 + r.length ≤ dialled.length)
    && (List.range r.length).all (fun j => r.digits.getD j 15 == dialled.getD (3 + j) 16)

/-- The winner among the matching refinements with their positions: the greatest compare length, the
earliest of equals (R56). -/
def winningRefinement (dialled : List Nat) :
    List (Refinement × Nat) → Option (Refinement × Nat)
  | [] => none
  | (r, n) :: rest =>
    match winningRefinement dialled rest with
    | none => if r.fits dialled then some (r, n) else none
    | some (w, m) =>
      if r.fits dialled && decide (w.length ≤ r.length) then some (r, n) else some (w, m)

/-- The outcome of an area entry that is VALID (R56). -/
def analyse (key : Nat) (dialled : List Nat) (e : AreaEntry) : Analysis :=
  match winningRefinement dialled (e.refinements.zipIdx 1) with
  | some (r, n) =>
    { source := .refinement, position := n, areaKey := some key, routeList := r.routeList,
      distance := r.distance }
  | none =>
    { source := .areaDefault, position := 0, areaKey := some key, routeList := e.routeList,
      distance := e.distance }

/-! ## Results (R107, R115, section 13.3) -/

/-- The analysis record in a SEIZE result (R58). -/
def Analysis.fields (a : Analysis) : List Field :=
  [⟨74, 1, a.source.code⟩, ⟨75, 1, a.position⟩, ⟨76, 2, a.areaKey.getD 0⟩,
    ⟨78, 1, flags [a.areaKey.isSome]⟩, ⟨88, 2, a.routeList⟩, ⟨90, 1, a.distance⟩]

/-- One entry of the attempt list, at cell byte 96 + 4 × n. -/
def Attempt.fields (n : Nat) (a : Attempt) : List Field :=
  [⟨96 + 4 * n, 1, a.choice⟩, ⟨97 + 4 * n, 1, a.reason.code⟩, ⟨98 + 4 * n, 2, a.group⟩]

/-- The attempt count and list (R106). -/
def attemptFields (attempts : List Attempt) : List Field :=
  ⟨73, 1, attempts.length⟩ :: (attempts.zipIdx.map (fun e => e.1.fields e.2)).flatten

/-- A SEIZE refused at a stage: the band when stage 5 was passed, the analysis record, an empty attempt
list (R97, R98, R107). -/
def State.refuseSeize (code : ResultCode) (a : Analysis) (band : Option Band) (s : State) : State :=
  s.complete code (⟨71, 1, (band.map Fin.val).getD 0⟩ :: a.fields)

/-- What a ROUTED result says of the route taken (R107, R115). -/
def Context.routeFields (c : Context) : List Field :=
  [⟨66, 2, c.group⟩, ⟨68, 1, c.owner⟩, ⟨69, 1, c.choice⟩, ⟨70, 1, c.tier⟩, ⟨71, 1, c.band⟩,
    ⟨72, 1, c.distance⟩, ⟨80, 4, c.quote⟩, ⟨84, 4, c.transitRate⟩]

/-- The handle of a live context. -/
def State.liveHandle (s : State) (i : CtxId) : Nat := handleOf i (s.context i).generation

/-! ## The lines a walk asks for -/

/-- The TARIFF tag of a carrier's line at a band and distance (R33, R37, R38). -/
def State.tariffTag (s : State) (c : CarrierId) (b : Band) (d : Distance) : Tag :=
  { kind := .tariff, index := (s.fetchCarrier c).val * 32 + b.val * 8 + d.val }

/-- The originating class of the call a walk is for (R99, R112). -/
def WalkFor.cls (s : State) : WalkFor → CallClass
  | .seize t => t.call.cls
  | .crankback i => (s.context i).cls

/-- The ceiling of the call a walk is for (R101, R112). -/
def WalkFor.ceiling (s : State) : WalkFor → Nat
  | .seize t => t.call.ceiling
  | .crankback i => (s.context i).ceiling

/-- The band of the call a walk is for (R98, R112). -/
def WalkFor.band (s : State) : WalkFor → Band
  | .seize t => t.band
  | .crankback i => (s.context i).band

/-- The distance band of the call a walk is for (R98, R112). -/
def WalkFor.distance (s : State) : WalkFor → Distance
  | .seize t => t.analysis.distance
  | .crankback i => (s.context i).distance

/-- The group the call is cranked back from (R99). -/
def WalkFor.excluded (s : State) : WalkFor → Option GroupId
  | .seize _ => none
  | .crankback i => some (s.context i).group

/-- The owner's handover line of a choice (R100). -/
def State.ownerTag (s : State) (p : WalkFor) (c : Choice) : Tag :=
  s.tariffTag (s.group c.group).owner (p.band s) (p.distance s)

/-! ## The checks of a choice (R99) -/

/-- Checks 1 to 4: the reason of the first that fails, none when all pass. They read only (R100). -/
def firstPart (p : WalkFor) (c : Choice) (s : State) : Option Reason :=
  if p.excluded s = some c.group then some .excluded
  else if !(s.group c.group).isOpen then some .closed
  else if !c.classMask.getLsbD (p.cls s).val then some .classBarred
  else if !(s.agreement (s.group c.group).owner).active then some .ownerInactive
  else none

/-- What checks 6 to 10 come to: a reason with the state it leaves, or the quote and the tier of a
choice that passes, with the state after its thinning step. -/
inductive ChoiceOutcome where
  | rejected (reason : Reason) (s : State)
  | passed (quote : Nat) (tier : Tier) (s : State)
  deriving DecidableEq, Repr

/-- The thinning step (R104): the accumulator after it, and whether the choice is admitted. -/
def Group.thin (r : Group) : Group × Bool :=
  let sum := r.thinning + r.control.altAdmit
  if 16 ≤ sum then ({ r with thinning := sum - 16 }, true) else ({ r with thinning := sum }, false)

/-- The quote of a choice at this moment (R101, R143). -/
def State.choiceQuote (s : State) (g : GroupId) (line : TariffLine) : Nat :=
  let r := s.group g
  quoteOf line.handoverRate (s.effPremium r.owner)[r.control.tier]

/-- Checks 6 to 10 on the delivered line (R99, R101 to R104). -/
def secondPart (p : WalkFor) (c : Choice) (line : TariffLine) (s : State) : ChoiceOutcome :=
  let r := s.group c.group
  let q := s.choiceQuote c.group line
  if !line.valid then .rejected .priceUnavailable s
  else if p.ceiling s ≠ 0 ∧ p.ceiling s < q then .rejected .overCeiling s
  else if r.provisioned ≤ r.busy then .rejected .full (s.pressure c.group)
  else if !c.alternate then .passed q r.control.tier s
  else if r.provisioned - r.busy ≤ r.control.reserve then .rejected .reserved s
  else
    let t := s.setGroup c.group r.thin.1
    if r.thin.2 then .passed q r.control.tier t else .rejected .thinned t

/-! ## Admission and move -/

/-- The owner side of a context, frozen or re-frozen from an admitted choice (R105, R113). -/
def Context.freezeOwner (s : State) (c : Choice) (line : TariffLine) (quote : Nat) (tier : Tier)
    (x : Context) : Context :=
  let owner := (s.group c.group).owner
  { x with
    group := c.group, choice := c.number, owner := owner, tier := tier, quote := quote,
    handoverSetup := line.handoverSetup, minOut := s.effMinSeconds owner,
    incOut := s.effIncrement owner }

/-- The context of an admitted seizure (R105); its generation is the one it had. -/
def admittedContext (s : State) (t : SeizeTerms) (c : Choice) (line : TariffLine) (quote : Nat)
    (tier : Tier) (generation : BitVec 4) : Context :=
  Context.freezeOwner s c line quote tier
    { Context.cold with
      state := .seized, generation := generation,
      incoming := t.call.incoming, cls := t.call.cls, ceiling := t.call.ceiling,
      band := t.band, distance := t.analysis.distance, routeList := t.analysis.routeList,
      source := t.analysis.source, transitRate := t.transitRate, transitSetup := t.transitSetup,
      minIn := s.effMinSeconds t.call.incoming, incIn := s.effIncrement t.call.incoming,
      crankbacks := 0, seizeTick := s.now }

/-- Admission of a seizure, one event (R105): the head of the free FIFO becomes SEIZED and the group is
claimed. The FIFO is not empty here; were it, the refusal of stage 1 stands. -/
def State.admitSeizure (t : SeizeTerms) (c : Choice) (line : TariffLine) (quote : Nat)
    (tier : Tier) (attempts : List Attempt) (s : State) : State :=
  match s.ct.freeFifo with
  | [] => s.refuseSeize .noContext t.analysis (some t.band)
  | i :: rest =>
    let x := admittedContext s t c line quote tier (s.context i).generation
    (((s.setContext i x).setFifo rest).claim c.group).complete .routed
      (⟨64, 2, handleOf i x.generation⟩ :: x.routeFields ++ t.analysis.fields
        ++ attemptFields attempts)

/-- The move of a crankback, one event (R113): BUSY leaves G for H, the owner side is re-frozen and the
crankback count rises. -/
def State.moveContext (i : CtxId) (c : Choice) (line : TariffLine) (quote : Nat) (tier : Tier)
    (s : State) : State :=
  let x := s.context i
  if x.live then
    ((s.setContext i
      { Context.freezeOwner s c line quote tier x with crankbacks := x.crankbacks + 1 }).unclaim
        x.group).claim c.group
  else s

/-- The choice has passed its last check: the call is admitted, or moved from G (R105, R113). -/
def State.admitChoice (p : WalkFor) (c : Choice) (line : TariffLine) (quote : Nat) (tier : Tier)
    (attempts : List Attempt) (s : State) : State :=
  let all := attempts ++ [⟨c.number, c.group, .admitted⟩]
  match p with
  | .seize t => s.admitSeizure t c line quote tier all
  | .crankback i =>
    let g := (s.context i).group
    let t := s.moveContext i c line quote tier
    t.complete .routed
      (⟨64, 2, t.liveHandle i⟩ :: (t.context i).routeFields
        ++ [⟨91, 1, (t.context i).crankbacks⟩, ⟨92, 2, g⟩] ++ attemptFields all)

/-- A crankback ends without a circuit: its context is freed in one event (R110, R114). -/
def State.endCrankback (i : CtxId) (code : ResultCode) (attempts : List Attempt) (s : State) :
    State :=
  (s.freeContext i).complete code
    ([⟨64, 2, s.liveHandle i⟩, ⟨92, 2, (s.context i).group⟩] ++ attemptFields attempts)

/-- The walk has passed its last choice without admitting (R99, R114). -/
def State.walkExhausted (p : WalkFor) (attempts : List Attempt) (s : State) : State :=
  match p with
  | .seize t =>
    s.complete .allBlocked (⟨71, 1, t.band⟩ :: t.analysis.fields ++ attemptFields attempts)
  | .crankback i => s.endCrankback i .allBlocked attempts

/-! ## The walk (R93, R99, R100, R112) -/

/-- The walk stands before the choices still to be evaluated, with the attempts recorded so far. -/
def State.walkOn (p : WalkFor) (attempts : List Attempt) (choices : List Choice) (s : State) :
    State :=
  { s with cc := { s.cc with work := .walking p attempts choices } }

/-- A choice that has failed a check is recorded and the walk goes on to the next (R99). -/
def Walk.reject (w : Walk) (reason : Reason) (s : State) : State :=
  s.walkOn w.purpose (w.attempts ++ [⟨w.current.number, w.current.group, reason⟩]) w.rest

/-- The second part of a choice, on the line delivered (R100). -/
def Walk.resume (w : Walk) (bytes : List Byte) (s : State) : State :=
  match secondPart w.purpose w.current (tariffLineOf bytes) s with
  | .rejected reason t => w.reject reason t
  | .passed quote tier t =>
    t.admitChoice w.purpose w.current (tariffLineOf bytes) quote tier w.attempts

/-- One choice, one event (R100): the whole of it when the owner's line is held, its first part when the
line is missed; the walk then waits for the fill. -/
def Walk.evaluate (w : Walk) (s : State) : State :=
  match firstPart w.purpose w.current s with
  | some reason => w.reject reason s
  | none =>
    match s.lookup (s.ownerTag w.purpose w.current) with
    | some bytes => w.resume bytes s
    | none => s.startFill (s.ownerTag w.purpose w.current) (.owner w)

/-- The next event of a walk: its next choice, or its end after the last (R99). -/
def State.walkEvent (p : WalkFor) (attempts : List Attempt) (choices : List Choice) (s : State) :
    State :=
  match choices with
  | [] => s.walkExhausted p attempts
  | c :: rest =>
    Walk.evaluate { purpose := p, attempts := attempts, current := c, rest := rest } s

/-- A step of SEIZE or of CRANKBACK: the next event of its walk when one stands before a choice, and
otherwise the request's first event (log entry 8). -/
def onWalk (mine : WalkFor → Bool) (first : State → Answer) (s : State) : Answer :=
  match s.cc.state, s.cc.work with
  | .working, .walking p attempts choices =>
    .next (if mine p then s.walkEvent p attempts choices else s)
  | _, _ => first s

/-- A walk of a seizure, not of a crankback. -/
def WalkFor.isSeize : WalkFor → Bool
  | .seize _ => true
  | .crankback _ => false

/-! ## The stages of a SEIZE (R97, R98) -/

/-- Stage 7 with the route list delivered, and the walk before its first choice (R98, R99). -/
def seizeOnRoute (t : SeizeTerms) (bytes : List Byte) (s : State) : State :=
  match choicesOf bytes with
  | none => s.refuseSeize .noRoute t.analysis (some t.band)
  | some choices => s.walkOn (.seize t) [] choices

/-- Stage 7: the route list. A number at or above the route list count is absent (R37, R98). -/
def seizeRoute (t : SeizeTerms) (s : State) : State :=
  if s.cc.anchor.routeCount ≤ t.analysis.routeList then
    s.refuseSeize .noRoute t.analysis (some t.band)
  else
    match s.lookup ⟨.route, t.analysis.routeList⟩ with
    | some bytes => seizeOnRoute t bytes s
    | none => s.startFill ⟨.route, t.analysis.routeList⟩ (.route t)

/-- Stage 6 with the transit line delivered (R98). -/
def seizeOnTransit (q : SeizeCall) (a : Analysis) (band : Band) (bytes : List Byte) (s : State) :
    State :=
  let line := tariffLineOf bytes
  if line.valid then
    seizeRoute
      { call := q, analysis := a, band := band, transitRate := line.transitRate,
        transitSetup := line.transitSetup } s
  else s.refuseSeize .noTransitPrice a (some band)

/-- Stages 5 and 6: the band lookup and the incoming carrier's transit line (R98). -/
def seizeTransit (q : SeizeCall) (a : Analysis) (s : State) : State :=
  let band := s.tb.band
  let tag := s.tariffTag q.incoming band a.distance
  match s.lookup tag with
  | some bytes => seizeOnTransit q a band bytes s
  | none => s.startFill tag (.transit q a band)

/-- Stage 4 with the area entry delivered (R54, R56). -/
def seizeOnArea (q : SeizeCall) (key : Nat) (dialled : List Nat) (bytes : List Byte)
    (s : State) : State :=
  let e := areaEntryOf bytes
  if e.valid then seizeTransit q (analyse key dialled e) s
  else s.refuseSeize .noRoute (Analysis.none (some key)) none

/-- Stage 4: destination analysis (R51 to R53). -/
def seizeDestination (q : SeizeRequest) (s : State) : State :=
  match q.address with
  | .override routeList distance =>
    seizeTransit q.toSeizeCall
      { source := .override, position := 0, areaKey := none, routeList := routeList,
        distance := distance } s
  | .digits dialled =>
    if dialled.length < 3 then s.refuseSeize .incompleteDigits (Analysis.none none) none
    else
      let key := areaKeyOf dialled
      match s.lookup ⟨.area, key⟩ with
      | some bytes => seizeOnArea q.toSeizeCall key dialled bytes s
      | none => s.startFill ⟨.area, key⟩ (.area q)

/-- The digits of an address form. -/
def AddressForm.dialled : AddressForm → List Nat
  | .digits dialled => dialled
  | .override _ _ => []

/-- Stage 3: a non-zero effective limit that the receivable has reached (R97, R151). -/
def State.creditExceeded (c : CarrierId) (s : State) : Bool :=
  s.effCreditLimit c != 0 && decide (s.effCreditLimit c ≤ (s.account c).receivable)

/-- SEIZE: operands, stages 1 to 3, then the destination (R96 to R98). -/
def seizeCell (c : FetchedCell) (s : State) : State :=
  match c.seizeRequest with
  | none => s.complete .badOperand []
  | some q =>
    if s.ct.freeFifo.isEmpty then s.refuseSeize .noContext (Analysis.none none) none
    else if !(s.agreement q.incoming).active then
      s.refuseSeize .carrierInactive (Analysis.none none) none
    else if s.creditExceeded q.incoming then
      s.refuseSeize .creditExceeded (Analysis.none none) none
    else seizeDestination q s

/-- The first event of a SEIZE. The dialled digits are not kept (R57): the latched operand bytes go, and
of the request only its `SeizeCall` passes stage 4; an area entry that is waited for has the digits
with its fill. -/
def seizeFirstEvent (c : FetchedCell) (s : State) : State := seizeCell c s.dropOperands

/-- SEIZE. -/
def execSeize (s : State) : Answer := onWalk WalkFor.isSeize (onRequest .seize seizeFirstEvent) s

/-! ## CRANKBACK (R109 to R115) -/

/-- The resumed walk over the delivered route list: the choices after the frozen choice number; an
absent list has none left (R111, R112). -/
def crankOnRoute (i : CtxId) (choices : Option (List Choice)) (s : State) : State :=
  s.walkOn (.crankback i) [] ((choices.getD []).drop (s.context i).choice)

/-- The route list of a crankback is looked up anew (R111). -/
def crankRoute (i : CtxId) (s : State) : State :=
  let n := (s.context i).routeList
  if s.cc.anchor.routeCount ≤ n then crankOnRoute i none s
  else
    match s.lookup ⟨.route, n⟩ with
    | some bytes => crankOnRoute i (choicesOf bytes) s
    | none => s.startFill ⟨.route, n⟩ (.crankRoute i)

/-- CRANKBACK: handle, state, limit, pressure on G, then the route list (R109 to R111). -/
def crankbackCell (c : FetchedCell) (s : State) : State :=
  let handle := c.operand 16 2
  let i := handleIndex handle
  let x := s.context i
  if !s.handleValid handle then s.complete .staleHandle (s.handleRefusal handle)
  else if x.state = .answered then
    s.complete .wrongState (s.handleRefusal handle ++ [⟨92, 2, x.group⟩])
  else
    let t := s.pressure x.group
    if 2 ≤ x.crankbacks then t.endCrankback i .crankbackLimit [] else crankRoute i t

/-- CRANKBACK. -/
def execCrankback (s : State) : Answer :=
  onWalk (fun p => !p.isSeize) (onRequest .crankback crankbackCell) s

/-! ## The ends of a fill (R40, R41) -/

/-- The requester goes on with the line delivered (R43). -/
def Requester.onLine (r : Requester) (bytes : List Byte) (s : State) : State :=
  match r with
  | .area q => seizeOnArea q.toSeizeCall (areaKeyOf q.address.dialled) q.address.dialled bytes s
  | .transit q a band => seizeOnTransit q a band bytes s
  | .route t => seizeOnRoute t bytes s
  | .crankRoute i => crankOnRoute i (choicesOf bytes) s
  | .owner w => w.resume bytes s

/-- The requester goes on with a table fault in place of the line; a walk records the choice
TABLE_FAULT and goes on (R41, R53, R98, R99, R111). -/
def Requester.onFault (r : Requester) (s : State) : State :=
  match r with
  | .area q => s.refuseSeize .tableFault (Analysis.none (some (areaKeyOf q.address.dialled))) none
  | .transit _ a band => s.refuseSeize .tableFault a (some band)
  | .route t => s.refuseSeize .tableFault t.analysis (some t.band)
  | .crankRoute i => s.endCrankback i .tableFault []
  | .owner w => w.reject .tableFault s

/-- FILL_COMPLETION: the line is installed, the fill cleared, and the line delivered (R40). -/
def execFillCompletion (data : List Byte) (s : State) : Answer :=
  match s.tau.fill with
  | none => .next s
  | some f =>
    let bytes := readBytes f.tag.kind.bytes data
    .next (f.requester.onLine bytes
      { s with tau := { lines := installLine ⟨f.tag, bytes⟩ s.tau.lines, fill := none } })

/-- A table fault: nothing is installed, the fault is offered with agent TABLE and the line's address,
and the requester goes on (R41). -/
def State.tableFault (kind : FaultKind) (f : Fill) (s : State) : State :=
  f.requester.onFault ((s.offerFault kind .table f.address).abandonFill)

/-- FILL_FAULT: an error completion for the fill (R41). -/
def execFillFault (s : State) : Answer :=
  match s.tau.fill with
  | none => .next s
  | some f => .next (s.tableFault .errorReply f)

/-- FILL_NO_REPLY: 50 µs have passed without a reply (R41). -/
def execFillNoReply (s : State) : Answer :=
  match s.tau.fill with
  | none => .next s
  | some f => .next (s.tableFault .noReply f)

end Sys2Proof.Machine
end

