-- ==== Sys2Proof/Machine/Chain.lean ====
section
/-! DEFINITION. The Chain Controller's own events (chapter 1): the anchor read, the cell fetch and its
dispatch, completion, links and retiring, faults, and NOP. -/

namespace Sys2Proof.Machine

/-- The chain access in flight has ended. -/
def State.endFlight (s : State) : State := { s with cc := { s.cc with flight := none } }

/-! ## The anchor -/

/-- The event of a valid anchor read (R5): cached fields replaced, the line cache flushed, JW started
or reopened, the poll counter 0 (R29), and the engine half written with retire mark 0. -/
def State.loadAnchor (f : AnchorFields) (s : State) : State :=
  let t := State.flush { s with
    cc := { s.cc with anchor := f }, tb := { s.tb with pollCounter := 0 } }
  t.reopenJournal.writeRetireMark .anchorEngineWrite 0

/-- ANCHOR_READ_END: the host half is checked (R4, R5). -/
def execAnchorReadEnd (data : List Byte) (s : State) : Answer :=
  match s.cc.flight with
  | some ⟨.anchorRead, a⟩ =>
    let f := anchorFieldsOf data
    .next (if f.valid then s.endFlight.loadAnchor f else s.chainFault .anchorInvalid a.base)
  | _ => .next s

/-- ANCHOR_ENGINE_WRITE_END: the chain head is held, position-valid is set and its fetch starts
(R5). -/
def execAnchorEngineWriteEnd (s : State) : Answer :=
  match s.cc.flight with
  | some ⟨.anchorEngineWrite, _⟩ =>
    .next (State.fetchCell { s with
      cc := { s.cc with held := s.cc.anchor.chainHead, positionValid := true } })
  | _ => .next s

/-! ## The cell -/

/-- A POSTED cell is dispatched by its kind: the chain goes to WORKING; a kind not in the catalogue
completes with BAD_KIND (R8). -/
def State.dispatchCell (c : FetchedCell) (s : State) : State :=
  let t := State.enterChain .working
    { s with cc := { s.cc with cell := some c, work := .dispatched, flight := none } }
  if (requestKind c.kind).isSome then t else t.complete .badKind []

/-- CELL_FETCH_END: a NOT_POSTED fault, or the dispatch of a POSTED cell (R7, R8). -/
def execCellFetchEnd (data : List Byte) (s : State) : Answer :=
  match s.cc.flight with
  | some ⟨.cellFetch, a⟩ =>
    .next (if statusPosted data then s.dispatchCell (fetchedCellOf data)
      else s.chainFault .notPosted a.base)
  | _ => .next s

/-- NOP completes with OK and an all-zero result area; its operands are not checked (R23). -/
def nopRequest (_ : FetchedCell) (s : State) : State := s.complete .ok []

/-- NOP. -/
def execNop (s : State) : Answer := onRequest .nop nopRequest s

/-- RESULT_WRITE_END: the status write follows (R10). -/
def execResultWriteEnd (s : State) : Answer :=
  match s.cc.flight with
  | some ⟨.resultWrite code, _⟩ => .next (s.writeStatus code)
  | _ => .next s

/-- The cell in hand asked for NOTIFY (R7). -/
def State.notifies (s : State) : Bool := (s.cc.cell.map FetchedCell.notify).getD false

/-- STATUS_WRITE_END: the cell is complete, ATTN CELL is set if NOTIFY was, and CC acts on stop-pending
(R10, R12). -/
def execStatusWriteEnd (s : State) : Answer :=
  match s.cc.flight with
  | some ⟨.statusWrite, _⟩ =>
    let t := if s.notifies then s.raise .cell else s
    .next (if s.cc.stopPending then t.chainIdle else t.dropCell.readLink)
  | _ => .next s

/-! ## The link -/

/-- Whether a candidate next cell is good (R14). -/
def State.goodLink (n : Addr) (s : State) : Bool :=
  s.cc.anchor.cellAddress n && n != s.cc.held

/-- The held cell is retired in favour of a good next cell: the retired count rises and the engine half
is written (R15). -/
def State.retire (n : Addr) (s : State) : State :=
  let t : State := { s with cc := { s.cc with retiredCount := s.cc.retiredCount + 1 } }
  t.writeRetireMark (.retireWrite n) s.cc.held

/-- LINK_READ_END, in the order of conditions of R13, with the checks of R14. -/
def execLinkReadEnd (data : List Byte) (s : State) : Answer :=
  match s.cc.flight with
  | some ⟨.linkRead, a⟩ =>
    let link := addrAt data 0
    let t := s.endFlight
    .next (
      if s.cc.stopPending then t.chainIdle
      else if link = 0 then
        if s.cc.nudgeSeen then
          State.readLink { t with cc := { t.cc with nudgeSeen := false } }
        else t.enterChain .waiting
      else if s.goodLink link then t.retire link
      else s.chainFault .badLink a.base)
  | _ => .next s

/-- RETIRE_WRITE_END: the next cell is held and its fetch starts (R15). -/
def execRetireWriteEnd (s : State) : Answer :=
  match s.cc.flight with
  | some ⟨.retireWrite n, _⟩ =>
    .next (State.fetchCell { s with cc := { s.cc with held := n } })
  | _ => .next s

/-! ## Faults of chain accesses -/

/-- CHAIN_ERROR_REPLY: the access in flight ends in an ERROR_REPLY fault (R2). -/
def execChainErrorReply (s : State) : Answer :=
  match s.cc.flight with
  | some f => .next (s.chainFault .errorReply f.access.base)
  | none => .next s

/-- CHAIN_NO_REPLY: the read in flight ends in a NO_REPLY fault; a write has none (R2). -/
def execChainNoReply (s : State) : Answer :=
  match s.cc.flight with
  | some f => .next (if f.access.isWrite then s else s.chainFault .noReply f.access.base)
  | none => .next s

/-- CHAIN_ABANDONED_WRITE_ERROR: the report is offered to the capture with agent CHAIN; the chain state
does not change (R3). -/
def execChainAbandonedWriteError (n : Nat) (s : State) : Answer :=
  match s.cc.abandoned[n]? with
  | some a =>
    .next (State.offerFault .errorReply .chain a.base
      { s with cc := { s.cc with abandoned := s.cc.abandoned.eraseIdx n } })
  | none => .next s

end Sys2Proof.Machine
end

