-- ==== Sys2Proof/Machine/Control.lean ====
section
/-! DEFINITION. Register writes (chapters 1 and 12) and the resets: CONTROL commands, NUDGE, the anchor
and attention registers, the fault capture, the RESET pin and the link. -/

namespace Sys2Proof.Machine

/-! ## CONTROL commands -/

/-- START (R19). -/
def State.start (s : State) : State :=
  if s.cc.state = .idle then
    if s.cc.positionValid then s.readLink.startJournal else s.readAnchor
  else s

/-- START. -/
def execStart (s : State) : Answer := onRegisterWrite State.start s

/-- STOP, by chain state (R20). -/
def State.stop (s : State) : State :=
  match s.cc.state with
  | .idle => s
  | .waiting => s.chainIdle
  | .fetching => { s with cc := { s.cc with stopPending := true } }
  | .working => { s with cc := { s.cc with stopPending := true } }
  | .stalled => { s with cc := { s.cc with stopPending := true } }
  | .faulted => State.chainIdle { s with cc := { s.cc with positionValid := false } }

/-- STOP. -/
def execStop (s : State) : Answer := onRegisterWrite State.stop s

/-- RESTART, the warm restart: the cell is abandoned, the accesses and the fill in flight with it, the
line cache flushed, CC and JW IDLE with position-valid clear (R3, R21, R42, R167). -/
def State.restart (s : State) : State :=
  let t := s.restartJournal
  let t : State := { t with
    cc := { t.cc with
      positionValid := false,
      abandoned := abandonedAfter t.cc.abandoned (t.cc.flight.map ChainFlight.access) } }
  t.flush.abandonFill.chainIdle

/-- RESTART. -/
def execRestart (s : State) : Answer := onRegisterWrite State.restart s

/-- COLD: a cold reset of the whole part (R22). -/
def execCold (s : State) : Answer := onRegisterWrite State.coldReset s

/-- A CONTROL write of another code is ignored (R169). -/
def execControlOtherCode (_code : Word32) (s : State) : Answer := .next s

/-! ## The other registers -/

/-- A NUDGE reaches CC (R17). -/
def State.nudgeChain (s : State) : State :=
  match s.cc.state with
  | .waiting => s.readLink
  | .fetching => { s with cc := { s.cc with nudgeSeen := true } }
  | .working => { s with cc := { s.cc with nudgeSeen := true } }
  | .stalled => { s with cc := { s.cc with nudgeSeen := true } }
  | .idle => s
  | .faulted => s

/-- NUDGE: a write of any value reaches CC and JW (R17, R159). -/
def execNudge (_value : Word32) (s : State) : Answer :=
  onRegisterWrite (fun t => t.nudgeChain.nudgeJournal) s

/-- A write of ANCHOR_LO or ANCHOR_HI is taken only while the chain is IDLE; it clears position-valid
(R6). -/
def State.writeAnchor (half : AnchorHalf) (value : Word32) (s : State) : State :=
  if s.cc.state = .idle then
    match half with
    | .lo => { s with cc := { s.cc with anchorLo := value, positionValid := false } }
    | .hi => { s with cc := { s.cc with anchorHi := value, positionValid := false } }
  else s

/-- ANCHOR_WRITE. -/
def execAnchorWrite (half : AnchorHalf) (value : Word32) (s : State) : Answer :=
  onRegisterWrite (State.writeAnchor half value) s

/-- ATTN_STATUS_WRITE clears each cause whose bit is 1 (R170). -/
def execAttnStatusWrite (value : Word32) (s : State) : Answer :=
  onRegisterWrite
    (fun t => { t with
      afl := t.afl.update (t.afl.status &&& ~~~(value.truncate 6)) t.afl.enable }) s

/-- ATTN_ENABLE_WRITE sets the enables whole; other bits are stored as 0 (R168, R170, R171). -/
def execAttnEnableWrite (value : Word32) (s : State) : Answer :=
  onRegisterWrite
    (fun t => { t with afl := t.afl.update t.afl.status (value.truncate 6) }) s

/-- FAULT_INFO_WRITE clears the capture; ATTN FAULT stays (R173). -/
def execFaultInfoWrite (_value : Word32) (s : State) : Answer :=
  onRegisterWrite (fun t => { t with afl := { t.afl with capture := none } }) s

/-- A write that no register takes is ignored (R168). -/
def execRegisterWriteIgnored (_offset _width _value : Nat) (s : State) : Answer := .next s

/-- The link delivers a register write: the command it is joins the tail of the queue, so that writes are
taken in the order of their delivery (R168, R169). -/
def State.deliverWrite (offset width value : Nat) (s : State) : State :=
  { s with pending := s.pending ++ [decodeRegisterWrite offset width value] }

/-! ## Resets from outside -/

/-- RESET_PIN: the pin goes low, a cold reset that holds until its release (R174). -/
def execResetPin (s : State) : Answer :=
  let t := s.coldReset
  .next { t with resets := { t.resets with pin := true } }

/-- LINK_RESET: a hot reset or a link-down is a cold reset that holds until it ends (R174). -/
def execLinkReset (_kind : LinkResetKind) (s : State) : Answer :=
  let t := s.coldReset
  .next { t with resets := { t.resets with link := true } }

/-- RESET_RELEASE: the pin is released, or the link reset ends (R174, log entry 17). -/
def execResetRelease (source : ResetSource) (s : State) : Answer :=
  match source with
  | .pin => .next { s with resets := { s.resets with pin := false } }
  | .link => .next { s with resets := { s.resets with link := false } }

end Sys2Proof.Machine
end

