-- ==== Sys2Proof/Machine/LineCache.lean ====
section
/-! DEFINITION. INVALIDATE (R44, R45). The lookups, fills and drops it shares with the other commands are
in Ops. -/

namespace Sys2Proof.Machine

/-- The bit of a table kind in the kind mask (section 13.4). -/
def TableKind.maskBit : TableKind → Nat
  | .area => 0
  | .route => 1
  | .tariff => 2

/-- Whether the operands of an INVALIDATE pass R44. -/
def invalidateOperandsGood (mask index : Nat) (indexPresent : Bool) : Bool :=
  decide (mask < 2 ^ 3) &&
    (!indexPresent || (decide (index ≤ 2047) && (!mask.testBit 0 || decide (index ≤ 999))))

/-- Whether an INVALIDATE names a line (R45). -/
def invalidateNames (mask index : Nat) (indexPresent : Bool) (t : Tag) : Bool :=
  mask.testBit t.kind.maskBit && (!indexPresent || t.index == index)

/-- INVALIDATE (R44, R45). -/
def invalidateRequest (c : FetchedCell) (s : State) : State :=
  let mask := c.operand 16 1
  let indexPresent := c.flag 17
  let index := c.operand 18 2
  if invalidateOperandsGood mask index indexPresent then
    let t := s.dropLines (invalidateNames mask index indexPresent)
    t.complete .ok
      [⟨64, 1, s.tau.lines.length - t.tau.lines.length⟩, ⟨65, 1, t.tau.lines.length⟩]
  else s.complete .badOperand []

/-- INVALIDATE. -/
def execInvalidate (s : State) : Answer := onRequest .invalidate invalidateRequest s

end Sys2Proof.Machine
end

