-- ==== Sys2Proof/Machine/Dispatch.lean ====
section
/-! DEFINITION. The meaning of every command of the table, one arm per row. -/

namespace Sys2Proof.Machine

/-- The effect of a command on everything but the queue. -/
def exec (i : Instr) (s : State) : Host.Outcome State Fault Refusal :=
  match i with
  | .start => Sys2Proof.Machine.execStart s
  | .stop => Sys2Proof.Machine.execStop s
  | .restart => Sys2Proof.Machine.execRestart s
  | .cold => Sys2Proof.Machine.execCold s
  | .controlOtherCode code => Sys2Proof.Machine.execControlOtherCode code s
  | .nudge value => Sys2Proof.Machine.execNudge value s
  | .anchorWrite half value => Sys2Proof.Machine.execAnchorWrite half value s
  | .attnStatusWrite value => Sys2Proof.Machine.execAttnStatusWrite value s
  | .attnEnableWrite value => Sys2Proof.Machine.execAttnEnableWrite value s
  | .faultInfoWrite value => Sys2Proof.Machine.execFaultInfoWrite value s
  | .registerWriteIgnored offset width value => Sys2Proof.Machine.execRegisterWriteIgnored offset width value s
  | .resetPin => Sys2Proof.Machine.execResetPin s
  | .linkReset kind => Sys2Proof.Machine.execLinkReset kind s
  | .tickAdvance => Sys2Proof.Machine.execTickAdvance s
  | .pollTick => Sys2Proof.Machine.execPollTick s
  | .pollExpiry => Sys2Proof.Machine.execPollExpiry s
  | .quietExpiry g => Sys2Proof.Machine.execQuietExpiry g s
  | .holdOffEnd g => Sys2Proof.Machine.execHoldOffEnd g s
  | .overdueExpiry ctx => Sys2Proof.Machine.execOverdueExpiry ctx s
  | .anchorReadEnd data => Sys2Proof.Machine.execAnchorReadEnd data s
  | .anchorEngineWriteEnd => Sys2Proof.Machine.execAnchorEngineWriteEnd s
  | .cellFetchEnd data => Sys2Proof.Machine.execCellFetchEnd data s
  | .stalledCellResume => Sys2Proof.Machine.execStalledCellResume s
  | .resultWriteEnd => Sys2Proof.Machine.execResultWriteEnd s
  | .statusWriteEnd => Sys2Proof.Machine.execStatusWriteEnd s
  | .linkReadEnd data => Sys2Proof.Machine.execLinkReadEnd data s
  | .retireWriteEnd => Sys2Proof.Machine.execRetireWriteEnd s
  | .chainErrorReply => Sys2Proof.Machine.execChainErrorReply s
  | .chainNoReply => Sys2Proof.Machine.execChainNoReply s
  | .chainAbandonedWriteError n => Sys2Proof.Machine.execChainAbandonedWriteError n s
  | .nop => Sys2Proof.Machine.execNop s
  | .seize => Sys2Proof.Machine.execSeize s
  | .crankback => Sys2Proof.Machine.execCrankback s
  | .answer => Sys2Proof.Machine.execAnswer s
  | .release => Sys2Proof.Machine.execRelease s
  | .queryContext => Sys2Proof.Machine.execQueryContext s
  | .reportChanges => Sys2Proof.Machine.execReportChanges s
  | .engineSet => Sys2Proof.Machine.execEngineSet s
  | .groupSet => Sys2Proof.Machine.execGroupSet s
  | .queryGroup => Sys2Proof.Machine.execQueryGroup s
  | .profileSet => Sys2Proof.Machine.execProfileSet s
  | .agreeSet => Sys2Proof.Machine.execAgreeSet s
  | .freeze => Sys2Proof.Machine.execFreeze s
  | .queryCarrier => Sys2Proof.Machine.execQueryCarrier s
  | .periodClose => Sys2Proof.Machine.execPeriodClose s
  | .invalidate => Sys2Proof.Machine.execInvalidate s
  | .clockSet => Sys2Proof.Machine.execClockSet s
  | .bandSet => Sys2Proof.Machine.execBandSet s
  | .fillCompletion data => Sys2Proof.Machine.execFillCompletion data s
  | .fillFault => Sys2Proof.Machine.execFillFault s
  | .fillNoReply => Sys2Proof.Machine.execFillNoReply s
  | .openingReadEnd data => Sys2Proof.Machine.execOpeningReadEnd data s
  | .recordWriteEnd => Sys2Proof.Machine.execRecordWriteEnd s
  | .recordCountWriteEnd => Sys2Proof.Machine.execRecordCountWriteEnd s
  | .prefetchReadEnd data => Sys2Proof.Machine.execPrefetchReadEnd data s
  | .closingHeaderWriteEnd => Sys2Proof.Machine.execClosingHeaderWriteEnd s
  | .mapEntryClearEnd => Sys2Proof.Machine.execMapEntryClearEnd s
  | .journalEngineWriteEnd => Sys2Proof.Machine.execJournalEngineWriteEnd s
  | .journalErrorReply => Sys2Proof.Machine.execJournalErrorReply s
  | .journalNoReply => Sys2Proof.Machine.execJournalNoReply s
  | .journalAbandonedWriteError n => Sys2Proof.Machine.execJournalAbandonedWriteError n s
  | .resetRelease source => Sys2Proof.Machine.execResetRelease source s

end Sys2Proof.Machine
end

