-- ==== Sys2Proof/Safety.lean ====
section
/-! DEFINITION. What a sound state of the part is, chapter by chapter, and the words the statements use
of a step. Each predicate formalises what the manual says always holds. -/

namespace Sys2Proof.Machine

/-! ## Words for one command -/

/-- The cell in hand is of kind `k` and its request step is still to be taken (R8). -/
def State.InHand (k : RequestKind) (c : FetchedCell) (s : State) : Prop :=
  s.cc.state = .working ∧ s.cc.work = .dispatched ∧ s.cc.cell = some c
    ∧ requestKind c.kind = some k

/-- A walk stands before the choices given, with the attempts given recorded (R99, R100). -/
def State.WalkInHand (p : WalkFor) (attempts : List Attempt) (choices : List Choice) (s : State) :
    Prop :=
  s.cc.state = .working ∧ s.cc.work = .walking p attempts choices

/-- The command that takes the next event of a walk. -/
def WalkFor.command : WalkFor → Instr
  | .seize _ => .seize
  | .crankback _ => .crankback

/-- The commands that put the part to its cold values (R22, R174). -/
def coldResets : Instr → Bool
  | .cold => true
  | .resetPin => true
  | .linkReset _ => true
  | _ => false

/-- Which blocks the rules let a command other than a cold reset reach: CC, the fill of TAU, JW, and the
attention causes or the capture. -/
structure Reach where
  chain : Bool
  fill : Bool
  journal : Bool
  attention : Bool
  deriving DecidableEq, Repr

/-- The reach of every command. CC is reached by its own accesses, the requests, the register writes that
name it, and polls (R1 to R23); the fill by the requests that ask for lines and a warm restart (R39 to
R42); JW by its own accesses, by what takes it out of a state, and by the requests that place an entry
in the hold store (R158 to R167); the attention by its register writes, the events that set a cause,
and the faults (R170 to R173). -/
def reach (c : Instr) : Reach :=
  match c with
  | .start => ⟨true, false, true, false⟩
  | .stop => ⟨true, false, false, false⟩
  | .restart => ⟨true, true, true, true⟩
  | .cold => ⟨true, true, true, true⟩
  | .controlOtherCode _ => ⟨false, false, false, false⟩
  | .nudge _ => ⟨true, false, true, false⟩
  | .anchorWrite _ _ => ⟨true, false, false, false⟩
  | .attnStatusWrite _ => ⟨false, false, false, true⟩
  | .attnEnableWrite _ => ⟨false, false, false, true⟩
  | .faultInfoWrite _ => ⟨false, false, false, true⟩
  | .registerWriteIgnored _ _ _ => ⟨false, false, false, false⟩
  | .resetPin => ⟨true, true, true, true⟩
  | .linkReset _ => ⟨true, true, true, true⟩
  | .tickAdvance => ⟨false, false, false, true⟩
  | .pollTick => ⟨true, false, true, false⟩
  | .pollExpiry => ⟨true, false, true, false⟩
  | .quietExpiry _ => ⟨false, false, false, true⟩
  | .holdOffEnd _ => ⟨false, false, false, false⟩
  | .overdueExpiry _ => ⟨false, false, false, true⟩
  | .anchorReadEnd _ => ⟨true, false, true, true⟩
  | .anchorEngineWriteEnd => ⟨true, false, false, false⟩
  | .cellFetchEnd _ => ⟨true, false, false, true⟩
  | .stalledCellResume => ⟨true, false, true, false⟩
  | .resultWriteEnd => ⟨true, false, false, false⟩
  | .statusWriteEnd => ⟨true, false, false, true⟩
  | .linkReadEnd _ => ⟨true, false, false, true⟩
  | .retireWriteEnd => ⟨true, false, false, false⟩
  | .chainErrorReply => ⟨true, false, false, true⟩
  | .chainNoReply => ⟨true, false, false, true⟩
  | .chainAbandonedWriteError _ => ⟨true, false, false, true⟩
  | .nop => ⟨true, false, false, false⟩
  | .seize => ⟨true, true, false, true⟩
  | .crankback => ⟨true, true, false, true⟩
  | .answer => ⟨true, false, false, false⟩
  | .release => ⟨true, false, true, true⟩
  | .queryContext => ⟨true, false, false, false⟩
  | .reportChanges => ⟨true, false, false, false⟩
  | .engineSet => ⟨true, false, false, false⟩
  | .groupSet => ⟨true, false, false, false⟩
  | .queryGroup => ⟨true, false, false, false⟩
  | .profileSet => ⟨true, false, false, false⟩
  | .agreeSet => ⟨true, false, false, false⟩
  | .freeze => ⟨true, false, false, false⟩
  | .queryCarrier => ⟨true, false, false, false⟩
  | .periodClose => ⟨true, false, true, false⟩
  | .invalidate => ⟨true, false, false, false⟩
  | .clockSet => ⟨true, false, false, false⟩
  | .bandSet => ⟨true, false, false, false⟩
  | .fillCompletion _ => ⟨true, true, false, true⟩
  | .fillFault => ⟨true, true, false, true⟩
  | .fillNoReply => ⟨true, true, false, true⟩
  | .openingReadEnd _ => ⟨false, false, true, true⟩
  | .recordWriteEnd => ⟨false, false, true, false⟩
  | .recordCountWriteEnd => ⟨false, false, true, false⟩
  | .prefetchReadEnd _ => ⟨false, false, true, false⟩
  | .closingHeaderWriteEnd => ⟨false, false, true, false⟩
  | .mapEntryClearEnd => ⟨false, false, true, false⟩
  | .journalEngineWriteEnd => ⟨false, false, true, true⟩
  | .journalErrorReply => ⟨false, false, true, true⟩
  | .journalNoReply => ⟨false, false, true, true⟩
  | .journalAbandonedWriteError _ => ⟨false, false, true, true⟩
  | .resetRelease _ => ⟨false, false, false, false⟩

/-! ## Expiries (R74, R125) -/

/-- The quiet timer of a group runs and has reached its window at this now (R74). -/
def State.QuietDue (s : State) (g : GroupId) (q : QuietTimer) : Prop :=
  (s.group g).quiet = some q ∧ q.window ≤ (s.now - q.start).toNat

/-- A context is SEIZED, unmarked and as old as a limit that is not 0 (R125). -/
def State.OverdueBy (s : State) (limit : Nat) (i : CtxId) : Prop :=
  limit ≠ 0 ∧ (s.context i).state = .seized ∧ (s.context i).overdue = false ∧
    (s.context i).overdueReported = false ∧
    limit * 100 ≤ (s.now - (s.context i).seizeTick).toNat

/-! ## Choices (R99, R101 to R105) -/

/-- Whether a choice with the owner's line delivered passes checks 1 to 10 of R99: the group is open
and not full, the class admitted, the owner active, the line valid, the quote within the ceiling, and
an ALTERNATE choice has idle circuits beyond RESERVE and a thinning sum of 16 or more. -/
def State.ChoicePasses (s : State) (ch : Choice) (cls : CallClass) (ceiling : Nat)
    (quote : Nat) (line : TariffLine) : Prop :=
  (s.group ch.group).isOpen = true ∧ ch.classMask.getLsbD cls.val = true ∧
  (s.agreement (s.group ch.group).owner).active = true ∧ line.valid = true ∧
  quote = (line.handoverRate
    * (s.effPremium (s.group ch.group).owner)[(s.group ch.group).control.tier] + 64) / 128 ∧
  (ceiling = 0 ∨ quote ≤ ceiling) ∧
  (s.group ch.group).busy < (s.group ch.group).provisioned ∧
  (ch.alternate = true →
    (s.group ch.group).control.reserve
      < (s.group ch.group).provisioned - (s.group ch.group).busy ∧
    16 ≤ (s.group ch.group).thinning + (s.group ch.group).control.altAdmit)

/-- The record of a group that has admitted a choice: BUSY and the seize counter gain 1, and an
ALTERNATE choice has taken its thinning step (R61, R64, R104). -/
def Group.admitted (r : Group) (alternate : Bool) : Group :=
  { r with
    busy := r.busy + 1, seizes := r.seizes + 1,
    thinning := if alternate = true then r.thinning + r.control.altAdmit - 16 else r.thinning }

/-! ## A charged release -/

/-- What the charge event of a RELEASE and the completion of its cell leave (R120, R124, R148, R150): the
charge of the context's frozen values is added to both accounts, its record joins the hold store, the
context is freed and its group's BUSY falls by 1. -/
structure State.ReleaseCharged (r : PendingRelease) (x : Context) (record : ChargeRecord)
    (s t : State) : Prop where
  frame : t = { s with
    cc := t.cc, tb := { s.tb with pollCounter := t.tb.pollCounter }, jw := t.jw,
    ru := (s.accumulate record).ru,
    groups := s.groups.set x.group
      { s.group x.group with busy := (s.group x.group).busy - 1 },
    ct := { s.ct with
      contexts := s.ct.contexts.set r.ctx { x with
        state := .free, generation := x.generation + 1, overdue := false,
        overdueReported := false },
      freeFifo := s.ct.freeFifo ++ [r.ctx] } }
  hold : t.jw.hold = s.jw.hold ++ [.charge record]
  snapshot : t.jw.snapshot = s.jw.snapshot
  woken : t.jw = (State.journalAdvance
    { s with jw := { s.jw with hold := s.jw.hold ++ [.charge record] } }).jw
  journal : s.jw.state ≠ .running ∨ s.jw.flight ≠ none →
    t.jw = { s.jw with hold := s.jw.hold ++ [.charge record] }
  chain : t.cc = { s.cc with
    state := .working, work := .completing,
    flight := some ⟨.resultWrite .ok, ⟨s.cc.held, 64, .write (layout 64 64
      [⟨64, 2, record.handle⟩, ⟨66, 2, record.group⟩, ⟨68, 1, record.owner⟩,
        ⟨69, 1, record.incoming⟩, ⟨70, 1, r.cause.code⟩,
        ⟨71, 1, 1 + 2 * r.ageClamped.toNat + 4 * record.clamped.toNat⟩,
        ⟨72, 4, r.releaseTick.toNat⟩,
        ⟨76, 4, record.duration⟩, ⟨80, 4, record.billedOut⟩, ⟨84, 4, record.billedIn⟩,
        ⟨88, 8, record.payable⟩, ⟨96, 8, record.receivable⟩])⟩⟩ }

/-! ## Calls (R61, R118, R121, R125) -/

/-- The number of live contexts whose group is `g`. -/
def State.callsOn (s : State) (g : GroupId) : Nat :=
  s.ct.contexts.toList.countP (fun c => c.live && c.group == g)

/-- BUSY of every group counts its live contexts (R61), and the free FIFO holds each FREE context
once and no live one (R118). -/
structure State.CallsSound (s : State) : Prop where
  busy : ∀ g, (s.group g).busy = s.callsOn g
  fifo_nodup : s.ct.freeFifo.Nodup
  fifo_free : ∀ i, i ∈ s.ct.freeFifo ↔ (s.context i).live = false

/-- An ANSWERED context has its answer tick and time (R121); an overdue mark stands on a SEIZED context
alone, and never both marks (R125, R127). -/
structure Context.MarksSound (c : Context) : Prop where
  answered : c.state = .answered → c.answerTick.isSome = true ∧ c.answerTime.isSome = true
  seized : c.state = .seized → c.answerTick = none ∧ c.answerTime = none
  overdue : c.overdue = true → c.state = .seized ∧ c.overdueReported = false
  reported : c.overdueReported = true → c.state = .seized

/-- Every context is marked soundly. -/
def State.MarksSound (s : State) : Prop := ∀ i, (s.context i).MarksSound

/-! ## The line cache (R33, R40) -/

/-- At most 32 lines, no two with one tag, each of its kind's size, and a fill in flight only for a tag
that is not held. -/
structure State.CacheSound (s : State) : Prop where
  room : s.tau.lines.length ≤ 32
  tags : (s.tau.lines.map Line.tag).Nodup
  sizes : ∀ l ∈ s.tau.lines, l.bytes.length = l.tag.kind.bytes
  fill : ∀ f, s.tau.fill = some f → s.lookup f.tag = none

/-! ## Groups and profiles (R60, R73, R74, R76, R80) -/

/-- The ranges of the fields of a profile and of an active control (R76). -/
structure Control.InRange (c : Control) : Prop where
  altAdmit : c.altAdmit ≤ 16
  reserve : c.reserve ≤ 4095
  stepInterval : c.stepInterval ≤ 65535
  holdOff : c.holdOff ≤ 127
  decay : 8 ≤ c.decay ∧ c.decay ≤ 255

/-- The ranges of a group record (R60, R61), with the rest of R73: a stopped quiet timer means level 0, no
history, no T_last and no hold-off. -/
structure Group.InRange (r : Group) : Prop where
  provisioned : r.provisioned ≤ 4095
  busy : r.busy ≤ 4095
  control : r.control.InRange
  thinning : r.thinning ≤ 15
  history_length : r.history.length ≤ 8
  captures : ∀ i ∈ r.history, 1 ≤ i ∧ i ≤ 65535
  window : ∀ q, r.quiet = some q → 100 ≤ q.window ∧ q.window ≤ 65535
  rest : r.quiet = none → r.level = 0 ∧ r.history = [] ∧ r.tLast = none ∧ r.holdOffEnd = none

/-- Every group and every profile is in its ranges. -/
structure State.GroupsInRange (s : State) : Prop where
  groups : ∀ g, (s.group g).InRange
  profiles : ∀ (n : SetId) (l : Level), (s.profileRow n)[l].InRange

/-! ## Agreements and accounts (R132, R140, R142, R149) -/

/-- The ranges of the own values of an agreement (R132). -/
structure Agreement.InRange (a : Agreement) : Prop where
  minSeconds : a.minSeconds ≤ 600
  increment : 1 ≤ a.increment ∧ a.increment ≤ 60
  premium : ∀ t : Tier, 64 ≤ a.premium[t] ∧ a.premium[t] ≤ 255
  creditLimit : a.creditLimit ≤ 2 ^ 48 - 1
  active_not_overridden : a.override.getLsbD 0 = false

/-- Every agreement is in its ranges, and while the freeze is in force every term is fixed (R140). -/
structure State.AgreementsSound (s : State) : Prop where
  ranges : ∀ c, (s.agreement c).InRange
  frozen : s.agr.freezeInForce = true → ∀ c, (s.agreement c).fixed = BitVec.allOnes 6

/-- No total exceeds its maximum (R149). -/
structure Account.InRange (a : Account) : Prop where
  payable : a.payable ≤ 2 ^ 48 - 1
  receivable : a.receivable ≤ 2 ^ 48 - 1
  outSeconds : a.outSeconds ≤ 2 ^ 32 - 1
  inSeconds : a.inSeconds ≤ 2 ^ 32 - 1
  outCalls : a.outCalls ≤ 2 ^ 32 - 1
  inCalls : a.inCalls ≤ 2 ^ 32 - 1

/-- No total of the period or of a held snapshot exceeds its maximum. -/
structure State.AccountsInRange (s : State) : Prop where
  open_period : ∀ c, (s.account c).InRange
  snapshot : ∀ p, s.jw.snapshot = some p → ∀ c : CarrierId, p.accounts[c].InRange

/-! ## The Journal Writer (R157, R158, R161, R162, R164, R165) -/

/-- A PERIOD_END entry of the hold store. -/
def HoldEntry.isPeriodEnd : HoldEntry → Bool
  | .charge _ => false
  | .periodEnd _ => true

/-- The head of the hold store is a PERIOD_END entry. -/
def JournalWriter.atPeriodEnd (j : JournalWriter) : Bool :=
  (j.hold.head?.map HoldEntry.isPeriodEnd).getD false

/-- The purpose of the access in flight. -/
def JournalWriter.flightOp (j : JournalWriter) : Option JournalOp := j.flight.map JournalFlight.op

/-- The hold store has at most 32 entries (R161), a PERIOD_END entry among them exactly while the
snapshot is held, and then one (R152, R155); a PERIOD_END close is under way only while that entry
is at the head (R165), and the engine half is written with no close pending (R164). -/
structure JournalWriter.HoldSound (j : JournalWriter) : Prop where
  room : j.hold.length ≤ 32
  snapshot : j.hold.countP HoldEntry.isPeriodEnd = if j.snapshot.isSome then 1 else 0
  close : j.close = .periodEnd → j.atPeriodEnd = true
  engine_write : ∀ b, j.flightOp = some (.engineWrite b) → j.close = .none
  last_step : j.flightOp = some (.engineWrite true) → j.atPeriodEnd = true

/-- What is in flight fits the journal state (R157), JW rests in RUNNING only with nothing to do
(R162), and the slot index and the cursor stay in their ranges. -/
structure JournalWriter.ShapeSound (j : JournalWriter) : Prop where
  stopped : j.state = .idle ∨ j.state = .waitingPage ∨ j.state = .faulted → j.flight = none
  opening : j.state = .opening → ∃ b, j.flightOp = some (.opening b)
  running : j.state = .running → ∀ b, j.flightOp ≠ some (.opening b)
  waits : j.state = .running → j.flight = none → j.close = .none ∧ j.hold = []
  slot : 1 ≤ j.slot ∧ j.slot ≤ 63
  cursor : j.cursor.carrier ≤ 64
  summary :
    j.flightOp = some (.record .summary) ∨ j.flightOp = some (.count .summary) →
      j.cursor.carrier ≤ 63

/-- The map index stays below the map length (R157), and JW leaves IDLE and the anchor position is valid
only with a map that has an entry (R4, R160). -/
structure State.MapSound (s : State) : Prop where
  index : s.jw.mapIndex < s.cc.anchor.mapLength ∨ s.jw.mapIndex = 0
  active : s.jw.state ≠ .idle ∨ s.jw.flight ≠ none → 1 ≤ s.cc.anchor.mapLength
  positioned : s.cc.positionValid = true → 1 ≤ s.cc.anchor.mapLength
  anchor_write : s.cc.flight.map ChainFlight.op = some .anchorEngineWrite →
    1 ≤ s.cc.anchor.mapLength

/-! ## The Chain Controller (R1, R2, R4, R9, R10, R14, R33) -/

/-- The accesses CC makes in FETCHING (R1). -/
def ChainOp.ofFetching : ChainOp → Bool
  | .anchorRead => true
  | .anchorEngineWrite => true
  | .cellFetch => true
  | .linkRead => true
  | .resultWrite _ => false
  | .statusWrite => false
  | .retireWrite _ => true

/-- What CC and TAU have under way, by chain state (R1, R2, R9, R10, R39, R100). -/
def State.ChainShape (s : State) : Prop :=
  match s.cc.state with
  | .idle =>
    s.cc.flight = none ∧ s.cc.work = .none ∧ s.cc.cell = none ∧ s.tau.fill = none
      ∧ s.cc.stopPending = false ∧ s.cc.nudgeSeen = false
  | .waiting =>
    s.cc.flight = none ∧ s.cc.work = .none ∧ s.cc.cell = none ∧ s.tau.fill = none
  | .faulted =>
    s.cc.flight = none ∧ s.cc.work = .none ∧ s.cc.cell = none ∧ s.tau.fill = none
  | .fetching =>
    (∃ f, s.cc.flight = some f ∧ f.op.ofFetching = true) ∧ s.cc.work = .none
      ∧ s.cc.cell = none ∧ s.tau.fill = none
  | .working =>
    s.cc.cell.isSome = true ∧
      ((s.cc.work = .dispatched ∧ s.cc.flight = none ∧ s.tau.fill = none)
        ∨ (s.cc.work = .awaitingLine ∧ s.cc.flight = none ∧ s.tau.fill.isSome = true)
        ∨ ((∃ p attempts choices, s.cc.work = .walking p attempts choices)
          ∧ s.cc.flight = none ∧ s.tau.fill = none)
        ∨ (s.cc.work = .completing ∧ s.tau.fill = none
          ∧ ∃ f, s.cc.flight = some f ∧ f.op.ofFetching = false))
  | .stalled =>
    s.cc.cell.isSome = true ∧ s.cc.flight = none ∧ s.tau.fill = none
      ∧ ((∃ r, s.cc.work = .stalledRelease r) ∨ s.cc.work = .stalledClose)

/-- From its first step on, a SEIZE in hand has no operand bytes, so that the number dialled stands at
most with the fill of its area entry (R57, log entry 29). -/
def State.NumberDropped (s : State) : Prop :=
  ∀ c, s.cc.cell = some c → requestKind c.kind = some .seize →
    s.cc.work = .dispatched ∨ c.operands = []

/-- The purpose of the access in flight. -/
def ChainController.flightOp (c : ChainController) : Option ChainOp := c.flight.map ChainFlight.op

/-- The chain stays inside its request area (R4, R14), and a retiring cell is never the one that will
be held (R15, R16). -/
structure ChainController.AreaSound (c : ChainController) : Prop where
  held : c.positionValid = true → c.anchor.valid = true ∧ c.anchor.cellAddress c.held = true
  next : ∀ n, c.flightOp = some (.retireWrite n) → c.anchor.cellAddress n = true ∧ n ≠ c.held
  head : c.flightOp = some .anchorEngineWrite → c.anchor.valid = true ∧ c.positionValid = false
  anchor_read : c.flightOp = some .anchorRead → c.positionValid = false

/-! ## The field ranges of contexts, and of what a request carries towards one (R117) -/

/-- The ranges of the fields of a context; a live one holds increments and a choice number of at least
1, which a cold one does not (R117). -/
structure Context.InRange (c : Context) : Prop where
  ceiling : c.ceiling ≤ 2 ^ 32 - 1
  routeList : c.routeList ≤ 2047
  transitRate : c.transitRate ≤ 16777215
  transitSetup : c.transitSetup ≤ 65535
  minIn : c.minIn ≤ 600
  incIn : c.incIn ≤ 60
  choice : c.choice ≤ 6
  quote : c.quote ≤ 33423358
  handoverSetup : c.handoverSetup ≤ 65535
  minOut : c.minOut ≤ 600
  incOut : c.incOut ≤ 60
  crankbacks : c.crankbacks ≤ 2
  live : c.live = true → 1 ≤ c.incIn ∧ 1 ≤ c.incOut ∧ 1 ≤ c.choice

/-- The range of what a seizure carries past stage 4 (R96). -/
def SeizeCall.InRange (q : SeizeCall) : Prop := q.ceiling ≤ 2 ^ 32 - 1

/-- The ranges of the operands of a SEIZE (R50, R96). -/
def SeizeRequest.InRange (q : SeizeRequest) : Prop :=
  q.toSeizeCall.InRange ∧ ∀ n d, q.address = .override n d → n ≤ 2047

/-- The ranges of what stages 4 to 6 have found (R34, R36, R51). -/
def SeizeTerms.InRange (t : SeizeTerms) : Prop :=
  t.call.InRange ∧ t.analysis.routeList ≤ 2047 ∧ t.transitRate ≤ 16777215
    ∧ t.transitSetup ≤ 65535

/-- A choice number is 1..6 (R35). -/
def Choice.InRange (c : Choice) : Prop := 1 ≤ c.number ∧ c.number ≤ 6

/-- What a walk carries is in range; a crankback walks for a SEIZED context below its limit (R110,
R111). -/
def WalkFor.InRange (s : State) : WalkFor → Prop
  | .seize t => t.InRange
  | .crankback i => (s.context i).state = .seized ∧ (s.context i).crankbacks ≤ 1

/-- What a fill's requester carries is in range. -/
def Requester.InRange (s : State) : Requester → Prop
  | .area q => q.InRange
  | .transit q a _ => q.InRange ∧ a.routeList ≤ 2047
  | .route t => t.InRange
  | .crankRoute i => WalkFor.InRange s (.crankback i)
  | .owner w => WalkFor.InRange s w.purpose ∧ w.current.InRange ∧ ∀ c ∈ w.rest, c.InRange

/-- Every context is in its ranges, and so is what the request in hand will freeze into one. -/
structure State.ContextsInRange (s : State) : Prop where
  contexts : ∀ i, (s.context i).InRange
  fill : ∀ f, s.tau.fill = some f → f.requester.InRange s
  walk : ∀ p attempts choices, s.cc.work = .walking p attempts choices →
    WalkFor.InRange s p ∧ ∀ c ∈ choices, c.InRange

/-! ## The poll counter and a held reset (R29, R174) -/

/-- The poll counter counts below the poll period while the conditions hold and is 0 otherwise (R29). -/
structure State.PollSound (s : State) : Prop where
  counting : s.pollCounting = true → s.tb.pollCounter < s.cc.anchor.pollPeriod
  stopped : s.pollCounting = false → s.tb.pollCounter = 0

/-- While a reset is held, every block holds its cold values (R174). -/
def State.HeldResetCold (s : State) : Prop :=
  s.inReset = true → s = s.coldReset

end Sys2Proof.Machine
end

