-- ==== Sys2Proof/Certificates/Slice0/Obligations.lean ====
section
/-! DEFINITION. What is claimed of the part: for each command the state it leaves, and for the whole
part what every step keeps. A next state is given as a record of the state before with the parts that
change written out, so that it is also the frame of the command. -/

open Sys2Proof Sys2Proof.Machine

/-! ## The queue and the whole part -/

/-- A step carries out the command at the front of the queue on the state with the queue's rest; an
empty queue idles. The queue is the model's (log entry 1). -/
def Obligations.StepCarriesOutFrontCommand : Prop :=
  (∀ (c : Instr) (rest : List Instr) (s : State), s.pending = c :: rest →
    step s = exec c { s with pending := rest }) ∧
  ∀ s : State, s.pending = [] → step s = .next s

/-- Every command answers a next state, whatever the state, and leaves the queue alone: a memory
fault is an effect on the state and no command is refused (R2, R41, R158; log entries 1, 3 and 19).
-/
def Obligations.EveryCommandAnswersNext : Prop :=
  ∀ (c : Instr) (s : State), ∃ t, exec c s = .next t ∧ t.pending = s.pending

/-- The frame of the whole part: apart from the cold resets, each block changes only by the commands
whose rules reach it, CC, the fill of TAU, JW, the attention and the poll counter among them. The
tick advance reaches groups, contexts and attention because it takes the expiries still due (log
entry 5). -/
def Obligations.BlocksChangeOnlyByTheirCommands : Prop :=
  ∀ (c : Instr) (s t : State), exec c s = .next t → coldResets c = false →
    (c ≠ .profileSet → t.profiles = s.profiles) ∧
    (c ∉ [.release, .stalledCellResume, .periodClose] → t.ru = s.ru) ∧
    (c ∉ [.agreeSet, .freeze, .periodClose, .stalledCellResume] → t.agr = s.agr) ∧
    (c ≠ .tickAdvance → t.tb.now = s.tb.now) ∧
    (c ∉ [.tickAdvance, .clockSet] → t.tb.timeOfWeek = s.tb.timeOfWeek) ∧
    (c ≠ .bandSet → t.tb.bands = s.tb.bands) ∧
    ((∀ r, c ≠ .resetRelease r) → t.resets = s.resets) ∧
    ((∀ d, c ≠ .anchorReadEnd d) → t.cc.anchor = s.cc.anchor) ∧
    (c ∉ [.restart, .invalidate, .agreeSet] → (∀ d, c ≠ .fillCompletion d) →
      (∀ d, c ≠ .anchorReadEnd d) → t.tau.lines = s.tau.lines) ∧
    (c ∉ [.seize, .crankback, .answer, .release, .reportChanges, .engineSet, .stalledCellResume,
        .fillFault, .fillNoReply, .tickAdvance] → (∀ d, c ≠ .fillCompletion d) →
      (∀ i, c ≠ .overdueExpiry i) → t.ct = s.ct) ∧
    (c ∉ [.seize, .crankback, .release, .reportChanges, .groupSet, .stalledCellResume,
        .fillFault, .fillNoReply, .tickAdvance] → (∀ d, c ≠ .fillCompletion d) →
      (∀ g, c ≠ .quietExpiry g) → (∀ g, c ≠ .holdOffEnd g) → t.groups = s.groups) ∧
    ((reach c).chain = false → t.cc = s.cc) ∧
    ((reach c).fill = false → t.tau.fill = s.tau.fill) ∧
    ((reach c).journal = false → t.jw = s.jw) ∧
    ((reach c).attention = false → t.afl = s.afl) ∧
    (c ≠ .pollTick → t.tb.pollCounter = s.tb.pollCounter ∨ t.tb.pollCounter = 0) ∧
    ((reach c).chain = false → (reach c).journal = false → t.tb.pollCounter = s.tb.pollCounter)

/-! ## Register writes and resets -/

/-- START is taken only in IDLE: with position-valid it reads the held cell's link and takes a
stopped or faulted JW to its opening, without it it reads the anchor (R4, R19, R160). STOP acts by
chain state: pending in the busy states, to IDLE at once from WAITING and FAULTED, nothing in IDLE
(R20). That the latched cell and its work are cleared at an entry to IDLE is the model's choice (log
entry 20), and so is that the address of the map entry wraps (log entry 27). -/
def Obligations.StartAndStopActByChainState : Prop :=
  (∀ s : State, s.inReset = false →
    (s.cc.state ≠ .idle → exec .start s = .next s) ∧
    (s.cc.state = .idle → s.cc.positionValid = false →
      exec .start s = .next (State.settlePoll { s with
        cc := { s.cc with
          state := .fetching,
          flight := some ⟨.anchorRead, ⟨s.anchorAddress, 0, .read 256⟩⟩ } })) ∧
    (s.cc.state = .idle → s.cc.positionValid = true →
      s.jw.state ≠ .idle → s.jw.state ≠ .faulted →
      exec .start s = .next (State.settlePoll { s with
        cc := { s.cc with
          state := .fetching, flight := some ⟨.linkRead, ⟨s.cc.held, 0, .read 8⟩⟩ } })) ∧
    (s.cc.state = .idle → s.cc.positionValid = true →
      s.jw.state = .idle ∨ s.jw.state = .faulted →
      exec .start s = .next { s with
        cc := { s.cc with
          state := .fetching, flight := some ⟨.linkRead, ⟨s.cc.held, 0, .read 8⟩⟩ },
        jw := { s.jw with
          state := .opening, nudgeSeen := false, prefetch := none,
          flight := some ⟨.opening false,
            ⟨s.cc.anchor.mapBase + BitVec.ofNat 64 (s.jw.mapIndex * 16), 0, .read 16⟩⟩ },
        tb := { s.tb with pollCounter := 0 } })) ∧
  ∀ s : State, s.inReset = false →
    (s.cc.state = .idle → exec .stop s = .next s) ∧
    (s.cc.state = .fetching ∨ s.cc.state = .working ∨ s.cc.state = .stalled →
      exec .stop s = .next { s with cc := { s.cc with stopPending := true } }) ∧
    (s.cc.state = .waiting →
      exec .stop s = .next (State.settlePoll { s with
        cc := { s.cc with
          state := .idle, stopPending := false, nudgeSeen := false, flight := none, cell := none,
          work := .none } })) ∧
    (s.cc.state = .faulted →
      exec .stop s = .next (State.settlePoll { s with
        cc := { s.cc with
          state := .idle, positionValid := false, stopPending := false, nudgeSeen := false,
          flight := none, cell := none, work := .none } }))

/-- RESTART in every chain state: the chain goes to IDLE with position-valid clear and drops the
cell, the line cache and the fill; JW goes to IDLE, and a close whose engine-half write it abandons
takes its step 4 (R3, R21, R42, R47, R164, R165, R167). A write in flight joins the tail of its
agent's list of abandoned writes, a read and nothing in flight leave the list (R3, R158); that list
is the model's (log entry 14), and so is the clearing of the latched cell and its work (log entry
20). -/
def Obligations.RestartAbandonsWorkAndFlushes : Prop :=
  (∀ (l : List Access) (a : Access),
    abandonedAfter l none = l ∧
    (∀ n, a.transfer = .read n → abandonedAfter l (some a) = l) ∧
    ∀ d, a.transfer = .write d → abandonedAfter l (some a) = l ++ [a]) ∧
  ∀ s : State, s.inReset = false →
    ∃ t, exec .restart s = .next t ∧
      t = { s with
        cc := t.cc, tb := { s.tb with pollCounter := 0 }, tau := ⟨[], none⟩, jw := t.jw,
        afl := t.afl } ∧
      t.cc = { s.cc with
        state := .idle, positionValid := false, stopPending := false, nudgeSeen := false,
        flight := none, cell := none, work := .none,
        abandoned := abandonedAfter s.cc.abandoned (s.cc.flight.map ChainFlight.access) } ∧
      ((∀ b, s.jw.flightOp ≠ some (.engineWrite b)) →
        t.afl = s.afl ∧
        t.jw = { s.jw with
          state := .idle, flight := none, nudgeSeen := false, prefetch := none,
          abandoned := abandonedAfter s.jw.abandoned (s.jw.flight.map JournalFlight.access) }) ∧
      (s.jw.flightOp = some (.engineWrite false) →
        t.afl = s.afl.raise .page ∧
        t.jw = { s.jw with
          state := .idle, flight := none, nudgeSeen := false, prefetch := none,
          abandoned := abandonedAfter s.jw.abandoned (s.jw.flight.map JournalFlight.access) }) ∧
      (s.jw.flightOp = some (.engineWrite true) → s.jw.atPeriodEnd = true →
        t.afl = (s.afl.raise .page).raise .period ∧
        t.jw = { s.jw with
          state := .idle, flight := none, nudgeSeen := false, prefetch := none,
          hold := s.jw.hold.tail, snapshot := none, period := s.jw.period + 1,
          cursor := ⟨0, false⟩,
          abandoned := abandonedAfter s.jw.abandoned (s.jw.flight.map JournalFlight.access) })

/-- COLD, the RESET pin and a link reset leave the reset state; the pin and the link hold it, each
until its own release (R22, R174). The list of the writes that an earlier warm restart has abandoned
is emptied with the rest (log entry 14); the lines of the reset, the waiting commands and the count
of interrupt messages are kept: the model's choices (log entries 14, 15 and 17). The reset state
itself has the cold values of R1, R24, R33, R60, R76, R117, R118, R125, R132, R142, R157, R168 and
R173; that a call under way and an agreement's terms that R138 lets stand are lost with the rest is
the model's reading (log entry 26), the cold
anchor address of JW, the limit read at the tick and the count of messages are the model's (log
entries 24, 5 and 15). -/
def Obligations.ColdResetLeavesResetState : Prop :=
  (State.reset.cc = {
      state := .idle, held := 0, positionValid := false, stopPending := false,
      nudgeSeen := false,
      anchor := {
        signature := 0, chainHead := 0, lowBound := 0, highBound := 0, destinationBase := 0,
        routeBase := 0, routeCount := 0, tariffBase := 0, mapBase := 0, mapLength := 0,
        pollPeriod := 0 },
      retiredCount := 0, anchorLo := 0, anchorHi := 0, flight := none, cell := none,
      work := .none, abandoned := [] } ∧
    State.reset.tb = {
      now := 0, timeOfWeek := 0, bands := Vector.replicate 336 0, pollCounter := 0 } ∧
    State.reset.tau = ⟨[], none⟩ ∧
    (∃ c : Control, c = {
        altAdmit := 16, reserve := 0, tier := 0, stepInterval := 0, holdOff := 0, decay := 8 } ∧
      State.reset.profiles = Vector.replicate 16 (Vector.replicate 4 c) ∧
      State.reset.groups = Vector.replicate 512 {
        provisioned := 0, busy := 0, isOpen := false, owner := 0, profileSet := 0, depth := .k1,
        mode := .auto, level := 0, control := c, thinning := 0, history := [], tLast := none,
        holdOffEnd := none, quiet := none, change := .none, seizes := 0, pressures := 0 }) ∧
    State.reset.ct = {
      contexts := Vector.replicate 4096 {
        state := .free, generation := 0, incoming := 0, cls := 0, ceiling := 0, band := 0,
        distance := 0, routeList := 0, source := .none, transitRate := 0, transitSetup := 0,
        minIn := 0, incIn := 0, group := 0, choice := 0, owner := 0, tier := 0, quote := 0,
        handoverSetup := 0, minOut := 0, incOut := 0, crankbacks := 0, seizeTick := 0,
        answerTick := none, answerTime := none, overdue := false, overdueReported := false },
      freeFifo := List.finRange 4096, answerLimit := 0, limitAtTick := 0 } ∧
    State.reset.agr = {
      agreements := Vector.replicate 64 {
        active := false, minSeconds := 0, increment := 1, premium := Vector.replicate 4 128,
        creditLimit := 0, grid := .own, override := 0, fixed := 0 },
      freezePending := false, freezeInForce := false } ∧
    State.reset.ru = ⟨Vector.replicate 64 {
      payable := 0, receivable := 0, outSeconds := 0, inSeconds := 0, outCalls := 0,
      inCalls := 0, sat := false }, 0⟩ ∧
    State.reset.jw = {
      state := .idle, mapIndex := 0, page := 0, slot := 1, sequence := 0, period := 0,
      close := .none, prefetch := none, hold := [], snapshot := none, cursor := ⟨0, false⟩,
      nudgeSeen := false, flight := none, anchor := 0, abandoned := [] } ∧
    State.reset.afl = { status := 0, enable := 0, capture := none, interrupts := 0 } ∧
    State.reset.resets = ⟨false, false⟩ ∧ State.reset.pending = []) ∧
  ∀ s : State,
    (s.inReset = true ↔ s.resets.pin = true ∨ s.resets.link = true) ∧
    s.coldReset = { State.reset with
      afl := { State.reset.afl with interrupts := s.afl.interrupts },
      resets := s.resets, pending := s.pending } ∧
    (s.inReset = false →
      exec .cold s = .next { State.reset with
        afl := { State.reset.afl with interrupts := s.afl.interrupts },
        resets := s.resets, pending := s.pending }) ∧
    exec .resetPin s = .next { State.reset with
      afl := { State.reset.afl with interrupts := s.afl.interrupts },
      resets := ⟨true, s.resets.link⟩, pending := s.pending } ∧
    (∀ k, exec (.linkReset k) s = .next { State.reset with
      afl := { State.reset.afl with interrupts := s.afl.interrupts },
      resets := ⟨s.resets.pin, true⟩, pending := s.pending }) ∧
    exec (.resetRelease .pin) s = .next { s with resets := ⟨false, s.resets.link⟩ } ∧
    exec (.resetRelease .link) s = .next { s with resets := ⟨s.resets.pin, false⟩ }

/-- A CONTROL code that is no command and a write no register takes are ignored, and while a reset
is held every register write is ignored and ticks do not advance (R168, R169, R174). -/
def Obligations.IgnoredWritesChangeNothing : Prop :=
  ∀ s : State,
    (∀ code, exec (.controlOtherCode code) s = .next s) ∧
    (∀ offset width value, exec (.registerWriteIgnored offset width value) s = .next s) ∧
    (s.inReset = true →
      exec .start s = .next s ∧ exec .stop s = .next s ∧ exec .restart s = .next s ∧
      exec .cold s = .next s ∧ exec .tickAdvance s = .next s ∧ exec .pollTick s = .next s ∧
      (∀ v, exec (.nudge v) s = .next s) ∧ (∀ h v, exec (.anchorWrite h v) s = .next s) ∧
      (∀ v, exec (.attnStatusWrite v) s = .next s) ∧
      (∀ v, exec (.attnEnableWrite v) s = .next s) ∧
      ∀ v, exec (.faultInfoWrite v) s = .next s)

/-- A NUDGE of any value reaches CC and JW, each by its own state (R17, R159). That the address of a
map entry wraps is the model's choice (log entry 27). -/
def Obligations.NudgeReachesChainAndJournal : Prop :=
  ∀ (s : State) (v : Word32), s.inReset = false →
    ∃ t, exec (.nudge v) s = .next t ∧
      t = { s with
        cc := t.cc, jw := t.jw, tb := { s.tb with pollCounter := t.tb.pollCounter } } ∧
      (s.PollSound → t.PollSound) ∧
      (s.cc.state = .waiting → t.cc = { s.cc with
        state := .fetching, flight := some ⟨.linkRead, ⟨s.cc.held, 0, .read 8⟩⟩ }) ∧
      (s.cc.state = .fetching ∨ s.cc.state = .working ∨ s.cc.state = .stalled →
        t.cc = { s.cc with nudgeSeen := true }) ∧
      (s.cc.state = .idle ∨ s.cc.state = .faulted → t.cc = s.cc) ∧
      (s.jw.state = .waitingPage → t.jw = { s.jw with
        state := .opening,
        flight := some ⟨.opening true,
          ⟨s.cc.anchor.mapBase + BitVec.ofNat 64 (s.jw.mapIndex * 16), 0, .read 16⟩⟩ }) ∧
      (s.jw.state = .opening ∨ s.jw.state = .running →
        t.jw = { s.jw with nudgeSeen := true }) ∧
      (s.jw.state = .idle ∨ s.jw.state = .faulted → t.jw = s.jw)

/-- Register writes: a 32-bit write at the offset of a register that takes one is that register's
command, CONTROL's by its code, every other write is ignored (that a 32-bit one off the 4-byte grid
or past 0x3F is ignored too is the model's choice, log entry 28), and a delivered write joins the
tail of the queue (the queue is the model's, log entries 1 and 2). ANCHOR_LO and ANCHOR_HI are taken
only in IDLE and clear position-valid (R6); a status write clears the causes whose bit is 1 and
sends no message, an enable write sets the enables whole and sends one message exactly when the
signal becomes asserted, a FAULT_INFO write clears the capture alone (R168, R169, R170, R171, R173).
The count of messages is the model's record (log entry 15). -/
def Obligations.RegisterWritesAct : Prop :=
  (∀ (s : State) (v : Word32), s.inReset = false →
    (s.cc.state = .idle →
      exec (.anchorWrite .lo v) s
        = .next { s with cc := { s.cc with anchorLo := v, positionValid := false } } ∧
      exec (.anchorWrite .hi v) s
        = .next { s with cc := { s.cc with anchorHi := v, positionValid := false } }) ∧
    (s.cc.state ≠ .idle → ∀ h, exec (.anchorWrite h v) s = .next s)) ∧
  (∀ (s : State) (v : Word32), s.inReset = false →
    exec (.attnStatusWrite v) s = .next { s with
      afl := { s.afl with status := s.afl.status &&& ~~~(v.truncate 6) } } ∧
    exec (.attnEnableWrite v) s = .next { s with
      afl := { s.afl with
        enable := v.truncate 6,
        interrupts := s.afl.interrupts +
          (if s.afl.status &&& s.afl.enable = 0 ∧ s.afl.status &&& v.truncate 6 ≠ 0 then 1
            else 0) } } ∧
    exec (.faultInfoWrite v) s = .next { s with afl := { s.afl with capture := none } }) ∧
  (∀ (value : Nat) (w : Word32), w = BitVec.ofNat 32 value →
    decodeRegisterWrite 0x04 4 value = .anchorWrite .lo w ∧
    decodeRegisterWrite 0x08 4 value = .anchorWrite .hi w ∧
    (w = 1 → decodeRegisterWrite 0x0C 4 value = .start) ∧
    (w = 2 → decodeRegisterWrite 0x0C 4 value = .stop) ∧
    (w = 3 → decodeRegisterWrite 0x0C 4 value = .restart) ∧
    (w = 4 → decodeRegisterWrite 0x0C 4 value = .cold) ∧
    (w ∉ [1, 2, 3, 4] → decodeRegisterWrite 0x0C 4 value = .controlOtherCode w) ∧
    decodeRegisterWrite 0x10 4 value = .nudge w ∧
    decodeRegisterWrite 0x18 4 value = .attnStatusWrite w ∧
    decodeRegisterWrite 0x1C 4 value = .attnEnableWrite w ∧
    decodeRegisterWrite 0x28 4 value = .faultInfoWrite w) ∧
  (∀ offset width value : Nat,
    width ≠ 4 ∨ offset ∉ [0x04, 0x08, 0x0C, 0x10, 0x18, 0x1C, 0x28] →
    decodeRegisterWrite offset width value = .registerWriteIgnored offset width value) ∧
  ∀ (s : State) (offset width value : Nat),
    s.deliverWrite offset width value
      = { s with pending := s.pending ++ [decodeRegisterWrite offset width value] }

/-- What a read of the register window returns: each field at the place R168 gives it with the
number that R168 gives each chain state, journal state, fault kind and agent, and 0 for every access
that no readable register decodes (R168, R173). That a 32-bit read off the 4-byte grid or past 0x3F
returns 0 is the model's choice (log entry 28). -/
def Obligations.RegisterReadsShowTheState : Prop :=
  (ChainState.idle.code = 0 ∧ ChainState.fetching.code = 1 ∧ ChainState.working.code = 2 ∧
    ChainState.stalled.code = 3 ∧ ChainState.waiting.code = 4 ∧ ChainState.faulted.code = 5 ∧
    JournalState.idle.code = 0 ∧ JournalState.opening.code = 1 ∧ JournalState.running.code = 2 ∧
    JournalState.waitingPage.code = 3 ∧ JournalState.faulted.code = 4 ∧
    FaultKind.noReply.code = 1 ∧ FaultKind.errorReply.code = 2 ∧ FaultKind.badLink.code = 3 ∧
    FaultKind.notPosted.code = 4 ∧ FaultKind.anchorInvalid.code = 5 ∧
    Agent.chain.code = 1 ∧ Agent.table.code = 2 ∧ Agent.journal.code = 3) ∧
  ∀ s : State,
    s.readRegister 0x00 4 = 0x41600103 ∧
    s.readRegister 0x04 4 = s.cc.anchorLo ∧ s.readRegister 0x08 4 = s.cc.anchorHi ∧
    (s.readRegister 0x14 4).extractLsb' 0 3 = BitVec.ofNat 3 s.cc.state.code ∧
    (s.readRegister 0x14 4).extractLsb' 4 3 = BitVec.ofNat 3 s.jw.state.code ∧
    (s.readRegister 0x14 4).getLsbD 8 = s.cc.stopPending ∧
    (s.readRegister 0x14 4).getLsbD 9 = s.cc.positionValid ∧
    (s.readRegister 0x14 4).getLsbD 10 = s.agr.freezePending ∧
    (s.readRegister 0x14 4).getLsbD 11 = s.agr.freezeInForce ∧
    (s.readRegister 0x14 4).extractLsb' 12 20 = 0 ∧
    (s.readRegister 0x18 4).extractLsb' 0 6 = s.afl.status ∧
    (s.readRegister 0x1C 4).extractLsb' 0 6 = s.afl.enable ∧
    (∀ c, s.afl.capture = some c →
      s.readRegister 0x24 4 ++ s.readRegister 0x20 4 = c.address ∧
      (s.readRegister 0x28 4).getLsbD 0 = true ∧
      (s.readRegister 0x28 4).getLsbD 1 = c.lost ∧
      (s.readRegister 0x28 4).extractLsb' 4 3 = BitVec.ofNat 3 c.kind.code ∧
      (s.readRegister 0x28 4).extractLsb' 8 2 = BitVec.ofNat 2 c.agent.code) ∧
    (s.afl.capture = none →
      s.readRegister 0x20 4 = 0 ∧ s.readRegister 0x24 4 = 0 ∧ s.readRegister 0x28 4 = 0) ∧
    (∀ offset width, width ≠ 4 → s.readRegister offset width = 0) ∧
    (∀ offset, 0x2C ≤ offset → s.readRegister offset 4 = 0) ∧
    (∀ offset, offset % 4 ≠ 0 → s.readRegister offset 4 = 0) ∧
    s.readRegister 0x0C 4 = 0 ∧ s.readRegister 0x10 4 = 0

/-! ## The Timebase -/

/-- Each 10 ms tick adds 1 to both counts in one event, each wrapping at its end, and reads the
answer limit for the overdue checks of the new now (R25, R125). No expiry outlasts its tick: those
that the old now made due and no command has taken are taken first, a hold-off end clearing its
hold-off, a quiet expiry going down, advising or taking to rest, an overdue one setting its flag,
with CHANGE set exactly where a flag was set (R74, R75, R87, R88, R89, R91). That they stand at the
end of their tick, where nothing has taken them before, is the model's choice (log entry 5). -/
def Obligations.TickAdvancesBothCounts : Prop :=
  ∀ s : State, s.inReset = false →
    ∃ t, exec .tickAdvance s = .next t ∧
      t = { s with
        tb := { s.tb with
          now := s.tb.now + 1,
          timeOfWeek := Fin.ofNat 60480000 (s.tb.timeOfWeek.val + 1) },
        groups := t.groups,
        ct := { s.ct with contexts := t.ct.contexts, limitAtTick := s.ct.answerLimit },
        afl := t.afl } ∧
      (∀ (g : GroupId) (r h : Group), r = s.group g →
        h = { r with
          holdOffEnd := if r.holdOffEnd = some s.now then none else r.holdOffEnd } →
        ((∀ q, ¬ s.QuietDue g q) → t.group g = h) ∧
        ∀ q, s.QuietDue g q →
          (r.level = 0 → t.group g
            = { h with history := [], tLast := none, holdOffEnd := none, quiet := none }) ∧
          (∀ (l : Level) (c : Control), r.mode = .auto → r.level.val = l.val + 1 →
            c = (s.profileRow r.profileSet)[l] →
            t.group g = { h with
              level := l, control := c, thinning := 0, change := .level,
              quiet := some ⟨match r.fi with
                | none => 65535
                | some f => max 100 (min 65535 (f * c.decay / 8)), s.now⟩ }) ∧
          (r.mode = .held → r.level ≠ 0 →
            t.group g = { h with change := .adviseDown, quiet := some ⟨q.window, s.now⟩ })) ∧
      (∀ i, (s.OverdueBy s.ct.limitAtTick i →
          t.context i = { s.context i with overdue := true }) ∧
        (¬ s.OverdueBy s.ct.limitAtTick i → t.context i = s.context i)) ∧
      ((∃ g q, s.QuietDue g q ∧ (s.group g).level ≠ 0) ∨ (∃ i, s.OverdueBy s.ct.limitAtTick i) →
        t.afl = s.afl.raise .change) ∧
      (¬ ((∃ g q, s.QuietDue g q ∧ (s.group g).level ≠ 0)
          ∨ ∃ i, s.OverdueBy s.ct.limitAtTick i) → t.afl = s.afl)

/-- The poll counter: a poll tick counts while the conditions hold, and the tick that reaches the
poll period is the poll expiry, on which a WAITING chain reads its link and a WAITING_PAGE JW
re-reads the map entry (R17, R29, R30, R159; log entry 6 for the two commands). That counting ends
with an expiry that takes JW out of WAITING_PAGE, the counter 0 until it counts again, is the
model's reading (log entry 23). That the address of a map entry wraps is the model's choice (log
entry 27). -/
def Obligations.PollTicksCountAndExpire : Prop :=
  ∀ s : State,
    (s.pollCounting = true ↔
      (s.cc.state = .waiting ∨ s.jw.state = .waitingPage) ∧ s.cc.anchor.pollPeriod ≠ 0
        ∧ s.inReset = false) ∧
    s.settlePoll = { s with
      tb := { s.tb with
        pollCounter := if s.pollCounting = true then s.tb.pollCounter else 0 } } ∧
    (s.pollCounting = false → exec .pollTick s = .next s ∧ exec .pollExpiry s = .next s) ∧
    (s.pollCounting = true → s.tb.pollCounter + 1 < s.cc.anchor.pollPeriod →
      exec .pollTick s = .next { s with
        tb := { s.tb with pollCounter := s.tb.pollCounter + 1 } } ∧
      exec .pollExpiry s = .next s) ∧
    (s.pollCounting = true → s.cc.anchor.pollPeriod ≤ s.tb.pollCounter + 1 →
      ∀ c, c = Instr.pollTick ∨ c = Instr.pollExpiry →
        ∃ t, exec c s = .next t ∧
          t = { s with cc := t.cc, jw := t.jw, tb := { s.tb with pollCounter := 0 } } ∧
          (s.cc.state = .waiting → t.cc = { s.cc with
            state := .fetching, flight := some ⟨.linkRead, ⟨s.cc.held, 0, .read 8⟩⟩ }) ∧
          (s.cc.state ≠ .waiting → t.cc = s.cc) ∧
          (s.jw.state = .waitingPage → t.jw = { s.jw with
            state := .opening,
            flight := some ⟨.opening true,
              ⟨s.cc.anchor.mapBase + BitVec.ofNat 64 (s.jw.mapIndex * 16), 0, .read 16⟩⟩ }) ∧
          (s.jw.state ≠ .waitingPage → t.jw = s.jw))

/-- CLOCK_SET sets the time of week when its set flag is set, refuses one above 60,479,999, never
touches the monotonic count, and returns the clock, the day, the half-hour and the band in force
after it (R27, R31). BAND_SET refuses a day selector above 2, and otherwise writes entry d × 48 + h
with band h of the pattern of day d's selector, all 336 in one event (R32). -/
def Obligations.ClockSetAndBandSetWriteTheTimebase : Prop :=
  (∀ (s : State) (c : FetchedCell), s.InHand .clockSet c →
    (c.flag 16 = true → 60480000 ≤ c.operand 20 4 →
      exec .clockSet s = .next (s.complete .badOperand [])) ∧
    (∀ v : TimeOfWeek,
      (c.flag 16 = true ∧ c.operand 20 4 = v.val) ∨ (c.flag 16 = false ∧ v = s.tb.timeOfWeek) →
      exec .clockSet s = .next (State.complete .ok
        [⟨64, 4, s.tb.now.toNat⟩, ⟨68, 4, s.tb.timeOfWeek.val⟩, ⟨72, 4, v.val⟩,
          ⟨76, 1, v.val / 8640000⟩, ⟨77, 1, v.val % 8640000 / 180000⟩,
          ⟨78, 1, (s.tb.bands.toList.getD
            (v.val / 8640000 * 48 + v.val % 8640000 / 180000) 0).val⟩]
        { s with tb := { s.tb with timeOfWeek := v } }))) ∧
  ∀ (s : State) (c : FetchedCell), s.InHand .bandSet c →
    (∀ d < 7, 2 < c.operand (52 + d) 1 →
      exec .bandSet s = .next (s.complete .badOperand [])) ∧
    ((∀ d < 7, c.operand (52 + d) 1 ≤ 2) →
      ∃ b : Vector Band 336,
        (∀ d < 7, ∀ h < 48, (b.toList.getD (d * 48 + h) 0).val
          = c.operand (16 + 12 * c.operand (52 + d) 1 + h / 4) 1 / 4 ^ (h % 4) % 4) ∧
        exec .bandSet s = .next (State.complete .ok
          [⟨64, 4, s.tb.timeOfWeek.val⟩, ⟨68, 1, s.tb.timeOfWeek.val / 8640000⟩,
            ⟨69, 1, s.tb.timeOfWeek.val % 8640000 / 180000⟩,
            ⟨70, 1, (b.toList.getD (s.tb.timeOfWeek.val / 8640000 * 48
              + s.tb.timeOfWeek.val % 8640000 / 180000) 0).val⟩]
          { s with tb := { s.tb with bands := b } }))

/-! ## The Chain Controller -/

/-- The end of an anchor read: an anchor that passes the checks of R4 replaces the cached fields,
flushes the cache, restarts and reopens JW under the new map and issues the engine-half write of
retire mark 0; one that fails a check is an ANCHOR_INVALID chain fault (R4, R5, R29, R47, R160). A
close whose engine-half write JW has in flight at a valid read takes its step 4 then (R160, R164,
R165, R167). The end of a write of the engine half: after the anchor's the chain head becomes the
held cell and position-valid is set, after a retire write the next cell does; then its fetch starts
(R5, R7, R15). The model's choices: the latched cell and its work cleared at the chain fault (log
entry 20), the list of abandoned writes (log entry 14), and that the address of the map entry wraps
(log entry 27). -/
def Obligations.AnchorLoadsAndEngineHalfEndsTakeTheCell : Prop :=
  (∀ (s : State) (a : Access) (data : List Byte),
    s.cc.flight = some ⟨.anchorRead, a⟩ →
    s.anchorAddress = s.cc.anchorHi ++ s.cc.anchorLo ∧
    anchorFieldsOf data
      = { signature := leNat data 0 4, pollPeriod := leNat data 4 1,
          chainHead := BitVec.ofNat 64 (leNat data 8 8),
          lowBound := BitVec.ofNat 64 (leNat data 16 8),
          highBound := BitVec.ofNat 64 (leNat data 24 8),
          destinationBase := BitVec.ofNat 64 (leNat data 32 8),
          routeBase := BitVec.ofNat 64 (leNat data 40 8),
          tariffBase := BitVec.ofNat 64 (leNat data 48 8),
          mapBase := BitVec.ofNat 64 (leNat data 56 8),
          routeCount := leNat data 64 2, mapLength := leNat data 66 2 } ∧
    ((anchorFieldsOf data).valid = true ↔
      leNat data 0 4 = 0x3134524F ∧ leNat data 16 8 % 128 = 0 ∧ leNat data 24 8 % 128 = 0 ∧
      leNat data 16 8 < leNat data 24 8 ∧ leNat data 8 8 % 128 = 0 ∧
      leNat data 16 8 ≤ leNat data 8 8 ∧ leNat data 8 8 < leNat data 24 8 ∧
      1 ≤ leNat data 64 2 ∧ leNat data 64 2 ≤ 2048 ∧
      1 ≤ leNat data 66 2 ∧ leNat data 66 2 ≤ 1024) ∧
    ((anchorFieldsOf data).valid = false →
      exec (.anchorReadEnd data) s = .next (State.settlePoll { s with
        cc := { s.cc with state := .faulted, flight := none, cell := none, work := .none },
        afl := s.afl.offer .anchorInvalid .chain a.base })) ∧
    ((anchorFieldsOf data).valid = true →
      ∃ t, exec (.anchorReadEnd data) s = .next t ∧
        t = { s with
          cc := t.cc, jw := t.jw, afl := t.afl, tau := { s.tau with lines := [] },
          tb := { s.tb with pollCounter := 0 } } ∧
        t.cc = { s.cc with
          state := .fetching, anchor := anchorFieldsOf data,
          flight := some ⟨.anchorEngineWrite, ⟨s.anchorAddress, 128,
            .write (layout 128 12 [⟨128, 8, 0⟩, ⟨136, 4, s.cc.retiredCount.toNat⟩])⟩⟩ } ∧
        t.jw.state = .opening ∧ t.jw.prefetch = none ∧ t.jw.nudgeSeen = false ∧
        t.jw.mapIndex
          = (if leNat data 66 2 ≤ s.jw.mapIndex then 0 else s.jw.mapIndex) ∧
        t.jw.flight = some ⟨.opening false,
          ⟨BitVec.ofNat 64 (leNat data 56 8) + BitVec.ofNat 64 (t.jw.mapIndex * 16), 0,
            .read 16⟩⟩ ∧
        t.jw.anchor = s.anchorAddress ∧ t.jw.slot = s.jw.slot ∧ t.jw.close = s.jw.close ∧
        t.jw.sequence = s.jw.sequence ∧ t.jw.page = s.jw.page ∧
        t.jw.abandoned
          = abandonedAfter s.jw.abandoned (s.jw.flight.map JournalFlight.access) ∧
        ((∀ b, s.jw.flightOp ≠ some (.engineWrite b)) →
          t.afl = s.afl ∧ t.jw.hold = s.jw.hold ∧ t.jw.snapshot = s.jw.snapshot ∧
          t.jw.period = s.jw.period ∧ t.jw.cursor = s.jw.cursor) ∧
        (s.jw.flightOp = some (.engineWrite false) →
          t.afl = s.afl.raise .page ∧ t.jw.hold = s.jw.hold ∧
          t.jw.snapshot = s.jw.snapshot ∧ t.jw.period = s.jw.period ∧
          t.jw.cursor = s.jw.cursor) ∧
        (s.jw.flightOp = some (.engineWrite true) → s.jw.atPeriodEnd = true →
          t.afl = (s.afl.raise .page).raise .period ∧ t.jw.hold = s.jw.hold.tail ∧
          t.jw.snapshot = none ∧ t.jw.period = s.jw.period + 1 ∧
          t.jw.cursor = ⟨0, false⟩))) ∧
  ∀ (s : State) (a : Access),
    (s.cc.flight = some ⟨.anchorEngineWrite, a⟩ →
      exec .anchorEngineWriteEnd s = .next (State.settlePoll { s with
        cc := { s.cc with
          state := .fetching, held := s.cc.anchor.chainHead, positionValid := true,
          flight := some ⟨.cellFetch, ⟨s.cc.anchor.chainHead, 0, .read 64⟩⟩ } })) ∧
    ∀ n, s.cc.flight = some ⟨.retireWrite n, a⟩ →
      exec .retireWriteEnd s = .next (State.settlePoll { s with
        cc := { s.cc with
          state := .fetching, held := n,
          flight := some ⟨.cellFetch, ⟨n, 0, .read 64⟩⟩ } })

/-- Fields read from memory are little-endian (chapter 13); a byte that a read has not brought
counts as 0 by the model's choice (log entry 22). The eighteen kind codes of the catalogue (section
1.9) and the end of a cell fetch: a POSTED cell of a known kind is dispatched with its kind, NOTIFY
and operands as read, one of an unknown kind completes with BAD_KIND, and any other status is a
NOT_POSTED chain fault (R7, R8, R10). That the latched cell and its work are cleared at that fault
is the model's choice (log entry 20). -/
def Obligations.CellFetchDispatchesPostedCells : Prop :=
  (∀ (data : List Byte) (offset width : Nat),
    byteAt data offset = data.getD offset 0 ∧ leNat data offset 0 = 0 ∧
    leNat data offset (width + 1)
      = (data.getD offset 0).toNat + 256 * leNat data (offset + 1) width) ∧
  (∀ (c : FetchedCell) (offset width : Nat), 16 ≤ offset →
    c.operand offset width = leNat c.operands (offset - 16) width ∧
    c.flag offset = (c.operands.getD (offset - 16) 0).getLsbD 0) ∧
  ([0x00, 0x01, 0x02, 0x03, 0x04, 0x05, 0x06, 0x07, 0x10, 0x11, 0x12, 0x18, 0x19, 0x1A, 0x1B, 0x20,
      0x21, 0x22].map requestKind
    = [RequestKind.nop, .seize, .crankback, .answer, .release, .queryContext, .reportChanges,
      .engineSet, .groupSet, .queryGroup, .profileSet, .agreeSet, .freeze, .queryCarrier,
      .periodClose, .invalidate, .clockSet, .bandSet].map some) ∧
  (∀ b : Byte, 0x07 < b.toNat ∧ b.toNat < 0x10 ∨ 0x12 < b.toNat ∧ b.toNat < 0x18 ∨
    0x1B < b.toNat ∧ b.toNat < 0x20 ∨ 0x22 < b.toNat → requestKind b = none) ∧
  ∀ (s : State) (a : Access) (data : List Byte) (c : FetchedCell),
    s.cc.flight = some ⟨.cellFetch, a⟩ →
    c.kind = byteAt data 8 → c.notify = (byteAt data 9).getLsbD 0 →
    c.operands = (List.range 48).map (fun n => byteAt data (16 + n)) →
    (byteAt data 10 ≠ 1 →
      exec (.cellFetchEnd data) s = .next (State.settlePoll { s with
        cc := { s.cc with state := .faulted, flight := none, cell := none, work := .none },
        afl := s.afl.offer .notPosted .chain a.base })) ∧
    (byteAt data 10 = 1 → (requestKind c.kind).isSome = true →
      exec (.cellFetchEnd data) s = .next (State.settlePoll { s with
        cc := { s.cc with
          state := .working, cell := some c, work := .dispatched, flight := none } })) ∧
    (byteAt data 10 = 1 → requestKind c.kind = none →
      exec (.cellFetchEnd data) s = .next (State.settlePoll { s with
        cc := { s.cc with
          state := .working, cell := some c, work := .completing,
          flight := some ⟨.resultWrite .badKind,
            ⟨s.cc.held, 64, .write (List.replicate 64 0)⟩⟩ } }))

/-- The result codes (section 13.2), and the bytes of a written extent: each byte is that of the
first field that covers it, little-endian, and 0 where none does (R176). Completion: a finished
request issues the write of cell bytes 64..127, its end the write of COMPLETE and the result code at
bytes 10..11, and the end of that sets CELL where NOTIFY was set and goes to IDLE with stop-pending
or to the link read without (R10, R12, R20, R175). That the latched cell and its work are cleared
there is the model's choice (log entry 20). -/
def Obligations.CompletionWritesInOrder : Prop :=
  ([ResultCode.ok, .badKind, .badOperand, .routed, .allBlocked, .noContext, .carrierInactive,
      .creditExceeded, .incompleteDigits, .noRoute, .tableFault, .noTransitPrice, .staleHandle,
      .wrongState, .crankbackLimit, .fieldFixed, .frozen].map ResultCode.code
    = [0, 1, 2, 3, 4, 5, 6, 7, 8, 9, 10, 11, 12, 13, 14, 15, 16]) ∧
  (∀ (start length : Nat) (fields : List Field),
    (layout start length fields).length = length ∧
    ∀ n < length, ∃ b, (layout start length fields)[n]? = some b ∧
      (∀ (before after : List Field) (f : Field), fields = before ++ f :: after →
        (∀ g ∈ before, start + n < g.offset ∨ g.offset + g.width ≤ start + n) →
        f.offset ≤ start + n → start + n < f.offset + f.width →
        b = BitVec.ofNat 8 (f.value / 256 ^ (start + n - f.offset))) ∧
      ((∀ f ∈ fields, start + n < f.offset ∨ f.offset + f.width ≤ start + n) → b = 0)) ∧
  (∀ (s : State) (code : ResultCode) (fields : List Field),
    s.complete code fields = State.settlePoll { s with
      cc := { s.cc with
        state := .working, work := .completing,
        flight := some ⟨.resultWrite code,
          ⟨s.cc.held, 64, .write (layout 64 64 fields)⟩⟩ } }) ∧
  (∀ (s : State) (a : Access) (code : ResultCode), s.cc.flight = some ⟨.resultWrite code, a⟩ →
    exec .resultWriteEnd s = .next { s with
      cc := { s.cc with
        flight := some ⟨.statusWrite,
          ⟨s.cc.held, 10, .write [2, BitVec.ofNat 8 code.code]⟩⟩ } }) ∧
  ∀ (s : State) (a : Access) (c : FetchedCell), s.cc.flight = some ⟨.statusWrite, a⟩ →
    s.cc.cell = some c →
    (s.cc.stopPending = true →
      exec .statusWriteEnd s = .next (State.settlePoll { s with
        cc := { s.cc with
          state := .idle, stopPending := false, nudgeSeen := false, flight := none,
          cell := none, work := .none },
        afl := if c.notify = true then s.afl.raise .cell else s.afl })) ∧
    (s.cc.stopPending = false →
      exec .statusWriteEnd s = .next (State.settlePoll { s with
        cc := { s.cc with
          state := .fetching, cell := none, work := .none,
          flight := some ⟨.linkRead, ⟨s.cc.held, 0, .read 8⟩⟩ },
        afl := if c.notify = true then s.afl.raise .cell else s.afl }))

/-- The end of a link read, in the order of conditions of R13, with the checks of R14 and the
retiring of R15. That the latched cell and its work are cleared at the entry to IDLE and at the
chain fault is the model's choice (log entry 20). -/
def Obligations.LinkReadActsInOrder : Prop :=
  ∀ (s : State) (a : Access) (data : List Byte) (n : Addr),
    s.cc.flight = some ⟨.linkRead, a⟩ → n = BitVec.ofNat 64 (leNat data 0 8) →
    (s.cc.stopPending = true →
      exec (.linkReadEnd data) s = .next (State.settlePoll { s with
        cc := { s.cc with
          state := .idle, stopPending := false, nudgeSeen := false, flight := none,
          cell := none, work := .none } })) ∧
    (s.cc.stopPending = false → n = 0 → s.cc.nudgeSeen = true →
      exec (.linkReadEnd data) s = .next (State.settlePoll { s with
        cc := { s.cc with
          state := .fetching, nudgeSeen := false,
          flight := some ⟨.linkRead, ⟨s.cc.held, 0, .read 8⟩⟩ } })) ∧
    (s.cc.stopPending = false → n = 0 → s.cc.nudgeSeen = false →
      exec (.linkReadEnd data) s = .next (State.settlePoll { s with
        cc := { s.cc with state := .waiting, flight := none } })) ∧
    (s.cc.stopPending = false → n ≠ 0 →
      n.toNat % 128 = 0 ∧ s.cc.anchor.lowBound.toNat ≤ n.toNat ∧
        n.toNat < s.cc.anchor.highBound.toNat ∧ n ≠ s.cc.held →
      exec (.linkReadEnd data) s = .next (State.settlePoll { s with
        cc := { s.cc with
          state := .fetching, retiredCount := s.cc.retiredCount + 1,
          flight := some ⟨.retireWrite n, ⟨s.anchorAddress, 128,
            .write (layout 128 12 [⟨128, 8, s.cc.held.toNat⟩,
              ⟨136, 4, (s.cc.retiredCount + 1).toNat⟩])⟩⟩ } })) ∧
    (s.cc.stopPending = false → n ≠ 0 →
      ¬ (n.toNat % 128 = 0 ∧ s.cc.anchor.lowBound.toNat ≤ n.toNat ∧
        n.toNat < s.cc.anchor.highBound.toNat ∧ n ≠ s.cc.held) →
      exec (.linkReadEnd data) s = .next (State.settlePoll { s with
        cc := { s.cc with state := .faulted, flight := none, cell := none, work := .none },
        afl := s.afl.offer .badLink .chain a.base }))

/-- A fault of an access in flight: CC goes to FAULTED keeping position-valid, the held cell and
stop-pending, JW to FAULTED keeping its head entry, slot, close and cursor, each with the fault
offered to the capture; a write has no NO_REPLY (R2, R158, R172). The engine-half write of JW is the
statement on closing pages. An error report for a write that a warm restart has abandoned is offered
to the capture with its agent, and neither the chain nor the journal changes state (R3, R158, R172).
The model's choices: a missing reply while a write is in flight changes nothing (log entries 3 and
10), the list of abandoned writes (log entry 14), and the latched cell and its work cleared at a
chain fault (log entry 20). -/
def Obligations.AccessFaultsStopTheirAgent : Prop :=
  ((∀ (s : State) (f : ChainFlight), s.cc.flight = some f →
    exec .chainErrorReply s = .next (State.settlePoll { s with
      cc := { s.cc with state := .faulted, flight := none, cell := none, work := .none },
      afl := s.afl.offer .errorReply .chain f.access.base }) ∧
    (∀ n, f.access.transfer = .read n →
      exec .chainNoReply s = .next (State.settlePoll { s with
        cc := { s.cc with state := .faulted, flight := none, cell := none, work := .none },
        afl := s.afl.offer .noReply .chain f.access.base })) ∧
    ∀ d, f.access.transfer = .write d → exec .chainNoReply s = .next s) ∧
  ∀ (s : State) (f : JournalFlight), s.jw.flight = some f →
    ((∀ b, f.op ≠ .engineWrite b) →
      exec .journalErrorReply s = .next (State.settlePoll { s with
        jw := { s.jw with state := .faulted, flight := none },
        afl := s.afl.offer .errorReply .journal f.access.base })) ∧
    (∀ n, (∀ b, f.op ≠ .engineWrite b) → f.access.transfer = .read n →
      exec .journalNoReply s = .next (State.settlePoll { s with
        jw := { s.jw with state := .faulted, flight := none },
        afl := s.afl.offer .noReply .journal f.access.base })) ∧
    ∀ d, f.access.transfer = .write d → exec .journalNoReply s = .next s) ∧
  (∀ (s : State) (n : Nat) (a : Access), s.cc.abandoned[n]? = some a →
    exec (.chainAbandonedWriteError n) s = .next { s with
      cc := { s.cc with abandoned := s.cc.abandoned.eraseIdx n },
      afl := s.afl.offer .errorReply .chain a.base }) ∧
  ∀ (s : State) (n : Nat) (a : Access), s.jw.abandoned[n]? = some a →
    exec (.journalAbandonedWriteError n) s = .next { s with
      jw := { s.jw with abandoned := s.jw.abandoned.eraseIdx n },
      afl := s.afl.offer .errorReply .journal a.base }

/-- NOP completes with OK and an all-zero result area, whatever its operand bytes; the rest of its
completion, ATTN CELL for NOTIFY included, is that of every cell (R23). -/
def Obligations.NopCompletesWithOk : Prop :=
  ∀ (s : State) (c : FetchedCell), s.InHand .nop c →
    exec .nop s = .next (State.settlePoll { s with
      cc := { s.cc with
        work := .completing,
        flight := some ⟨.resultWrite .ok,
          ⟨s.cc.held, 64, .write (List.replicate 64 0)⟩⟩ } })

/-! ## The line cache -/

/-- The end of a fill installs the bytes read at the tail, the oldest of 32 lines evicted first, and
the request goes on to its completion, to another miss, or before the next choice of its walk;
nothing outside the chain, the cache, the calls, the groups and the attention changes (R39, R40,
R100). The next choice, and the end of the walk, are steps of their own (log entry 8), and the cell
stays latched through them (log entry 20). A lookup finds the bytes of a held line with its tag and
misses when none has it (R39), and a line has its kind's size and address (R33, R37). -/
def Obligations.FillCompletionInstallsLine : Prop :=
  (∀ (s : State) (tag : Tag),
    (s.lookup tag = none ↔ ∀ l ∈ s.tau.lines, l.tag ≠ tag) ∧
    (∀ line, s.lookup tag = some line → ∃ l ∈ s.tau.lines, l.tag = tag ∧ l.bytes = line) ∧
    tag.kind.bytes = (if tag.kind = .tariff then 16 else 64) ∧
    (tag.kind = .area →
      s.lineAddress tag = s.cc.anchor.destinationBase + BitVec.ofNat 64 (tag.index * 64)) ∧
    (tag.kind = .route →
      s.lineAddress tag = s.cc.anchor.routeBase + BitVec.ofNat 64 (tag.index * 64)) ∧
    (tag.kind = .tariff →
      s.lineAddress tag = s.cc.anchor.tariffBase + BitVec.ofNat 64 (tag.index * 16))) ∧
  ∀ (s : State) (f : Fill) (data : List Byte), s.tau.fill = some f →
    ∃ t, exec (.fillCompletion data) s = .next t ∧
      t = { s with
        cc := t.cc, tau := t.tau, groups := t.groups, ct := t.ct, afl := t.afl,
        tb := { s.tb with pollCounter := t.tb.pollCounter } } ∧
      t.tau.lines = (if 32 ≤ s.tau.lines.length then s.tau.lines.tail else s.tau.lines)
        ++ [⟨f.tag, (List.range f.tag.kind.bytes).map (byteAt data)⟩] ∧
      ((t.tau.fill = none ∧ t.cc.work = .completing
          ∧ ∃ k fields, t.cc.flight = some ⟨.resultWrite k,
            ⟨s.cc.held, 64, .write (layout 64 64 fields)⟩⟩)
        ∨ (t.cc.work = .awaitingLine
          ∧ ∃ g, t.tau.fill = some g ∧ t.lookup g.tag = none
            ∧ g.address = t.lineAddress g.tag)
        ∨ (t.tau.fill = none ∧ t.cc.flight = s.cc.flight
          ∧ ∃ p attempts choices, t.cc.work = .walking p attempts choices))

/-- A fault of a fill installs and evicts nothing, is offered with agent TABLE and the address of
the line and sets ATTN FAULT, and the chain stays WORKING: a seizure that waits for its area entry,
transit line or route list completes with TABLE_FAULT, a crankback that waits for its route list
frees its call and completes with TABLE_FAULT, and a walk that waits for an owner's line records its
choice TABLE_FAULT and goes on before the next (R41, R53, R98, R99, R100, R111, R114). The next
choice is a step of its own (log entry 8). -/
def Obligations.FillFaultInstallsNothing : Prop :=
  ∀ (s : State) (f : Fill) (c : Instr) (k : FaultKind), s.tau.fill = some f →
    s.cc.state = .working →
    (c = .fillFault ∧ k = .errorReply) ∨ (c = .fillNoReply ∧ k = .noReply) →
    ∃ t, exec c s = .next t ∧
      t.cc.state = .working ∧ t.tau = { s.tau with fill := none } ∧
      t.afl = s.afl.offer k .table f.address ∧
      t.afl.capture = some (captureAfter k .table f.address s.afl.capture) ∧
      t.afl.status.getLsbD 5 = true ∧
      ∀ u : State, u = { s with
          tau := { s.tau with fill := none }, afl := s.afl.offer k .table f.address } →
        (∀ (q : SeizeRequest) (d0 d1 d2 : Nat) (ds : List Nat), f.requester = .area q →
          q.address = .digits (d0 :: d1 :: d2 :: ds) →
          t = u.complete .tableFault
            [⟨71, 1, 0⟩, ⟨74, 1, 0⟩, ⟨75, 1, 0⟩, ⟨76, 2, d0 * 100 + d1 * 10 + d2⟩, ⟨78, 1, 1⟩,
              ⟨88, 2, 0⟩, ⟨90, 1, 0⟩]) ∧
        (∀ q a band, f.requester = .transit q a band →
          t = u.complete .tableFault (⟨71, 1, band⟩ :: a.fields)) ∧
        (∀ terms, f.requester = .route terms →
          t = u.complete .tableFault (⟨71, 1, terms.band⟩ :: terms.analysis.fields)) ∧
        (∀ i x, f.requester = .crankRoute i → x = s.context i → x.state ≠ .free →
          t = State.complete .tableFault
            [⟨64, 2, x.generation.toNat * 4096 + i.val⟩, ⟨92, 2, x.group⟩, ⟨73, 1, 0⟩]
            { u with
              groups := s.groups.set x.group
                { s.group x.group with busy := (s.group x.group).busy - 1 },
              ct := { s.ct with
                contexts := s.ct.contexts.set i { x with
                  state := .free, generation := x.generation + 1, overdue := false,
                  overdueReported := false },
                freeFifo := s.ct.freeFifo ++ [i] } }) ∧
        ∀ w : Walk, f.requester = .owner w →
          t = { u with cc := { s.cc with
            work := .walking w.purpose
              (w.attempts ++ [⟨w.current.number, w.current.group, .tableFault⟩]) w.rest } }

/-- INVALIDATE refuses a mask or an index outside its encoding, and otherwise drops the held lines
of the kinds named, all of them or those of the index named, in one event that keeps the order of
the rest and reports both counts (R44, R45). That an empty mask with an index above 2047 is refused
is the model's reading (log entry 13). The mask bits of the kinds are those of section 13.4. -/
def Obligations.InvalidateDropsNamedLines : Prop :=
  (TableKind.area.maskBit = 0 ∧ TableKind.route.maskBit = 1 ∧ TableKind.tariff.maskBit = 2) ∧
  ∀ (s : State) (c : FetchedCell) (mask index : Nat) (present : Bool) (kept : List Line),
    s.InHand .invalidate c →
    mask = c.operand 16 1 → present = c.flag 17 → index = c.operand 18 2 →
    kept = s.tau.lines.filter (fun l =>
      !(mask.testBit l.tag.kind.maskBit && (!present || l.tag.index == index))) →
    (8 ≤ mask ∨ (present = true ∧ (2047 < index ∨ (mask.testBit 0 = true ∧ 999 < index))) →
      exec .invalidate s = .next (s.complete .badOperand [])) ∧
    (¬ (8 ≤ mask ∨
        (present = true ∧ (2047 < index ∨ (mask.testBit 0 = true ∧ 999 < index)))) →
      exec .invalidate s = .next (State.complete .ok
        [⟨64, 1, s.tau.lines.length - kept.length⟩, ⟨65, 1, kept.length⟩]
        { s with tau := { s.tau with lines := kept } }))

/-! ## Trunk groups and the Congestion Monitor -/

/-- GROUP_SET is refused BAD_OPERAND for operands outside their encodings and for LEVEL named while
the mode after the request is AUTO (R65, R66); the items of any other are the operand bytes that its
mask names (section 13.4), and it writes them, each on the record as the earlier ones left it, in
one event that touches one record alone, never BUSY and never the change flag (R67, R68, R69). -/
def Obligations.GroupSetRefusesOrWritesNamedItems : Prop :=
  (∀ (s : State) (c : FetchedCell), s.InHand .groupSet c →
    (c.groupRequest = none ↔
      511 < c.operand 16 2 ∨ 1024 ≤ c.operand 18 2 ∨
      ((c.operand 18 2).testBit 1 = true ∧ 63 < c.operand 22 1) ∨
      ((c.operand 18 2).testBit 2 = true ∧ 15 < c.operand 23 1) ∨
      ((c.operand 18 2).testBit 3 = true ∧ 3 < c.operand 24 1) ∨
      ((c.operand 18 2).testBit 4 = true ∧ 1 < c.operand 25 1) ∨
      ((c.operand 18 2).testBit 5 = true ∧ 3 < c.operand 26 1) ∨
      ((c.operand 18 2).testBit 6 = true ∧ 1 < c.operand 27 1)) ∧
    (c.groupRequest = none → exec .groupSet s = .next (s.complete .badOperand [])) ∧
    (∀ q mask, c.groupRequest = some q → mask = c.operand 18 2 →
      q.group.val = c.operand 16 2 ∧
      q.provisioned = (if mask.testBit 0 = true then some (c.operand 20 2) else none) ∧
      q.owner.map Fin.val = (if mask.testBit 1 = true then some (c.operand 22 1) else none) ∧
      q.profileSet.map Fin.val = (if mask.testBit 2 = true then some (c.operand 23 1) else none) ∧
      q.depth.map Depth.value
        = (if mask.testBit 3 = true then some (2 ^ c.operand 24 1) else none) ∧
      q.mode = (if mask.testBit 4 = true then
        some (if c.operand 25 1 = 0 then .auto else .held) else none) ∧
      q.level.map Fin.val = (if mask.testBit 5 = true then some (c.operand 26 1) else none) ∧
      q.isOpen = (if mask.testBit 6 = true then some (decide (c.operand 27 1 = 1)) else none) ∧
      q.reapply = mask.testBit 7 ∧ q.resetHistory = mask.testBit 8 ∧
      q.clearCounts = mask.testBit 9) ∧
    ∀ q, c.groupRequest = some q → q.level.isSome = true →
      q.mode.getD (s.group q.group).mode = .auto →
      exec .groupSet s = .next (s.complete .badOperand [])) ∧
  ∀ (s : State) (c : FetchedCell) (q : GroupRequest) (r : Group), s.InHand .groupSet c →
    c.groupRequest = some q → r = s.group q.group →
    q.level = none ∨ q.mode.getD r.mode = .held →
    ∃ u : Group,
      exec .groupSet s = .next (State.complete .ok
        (u.resultFields q.group s.now (decide (4095 < q.provisioned.getD 0)))
        (s.setGroup q.group u)) ∧
      u.busy = r.busy ∧ u.change = r.change ∧
      (∀ v, q.provisioned = some v → u.provisioned = if 4095 < v then 4095 else v) ∧
      (q.provisioned = none → u.provisioned = r.provisioned) ∧
      u.owner = q.owner.getD r.owner ∧ u.isOpen = q.isOpen.getD r.isOpen ∧
      u.profileSet = q.profileSet.getD r.profileSet ∧ u.depth = q.depth.getD r.depth ∧
      u.mode = q.mode.getD r.mode ∧ u.level = q.level.getD r.level ∧
      (q.level.isSome = true ∨ q.reapply = true →
        u.control = (s.profileRow u.profileSet)[u.level] ∧ u.thinning = 0) ∧
      (q.level = none → q.reapply = false →
        u.control = r.control ∧ u.thinning = r.thinning) ∧
      (q.resetHistory = true →
        u.history = [] ∧ u.tLast = none ∧ u.holdOffEnd = none ∧
        u.quiet = if r.level = 0 ∧ u.level = 0 then none else some ⟨65535, s.now⟩) ∧
      (q.resetHistory = false →
        u.history = r.history ∧ u.tLast = r.tLast ∧ u.holdOffEnd = r.holdOffEnd ∧
        u.quiet = if q.level.isSome = true ∧ r.quiet = none ∧ u.level ≠ 0
          then some ⟨65535, s.now⟩ else r.quiet) ∧
      u.seizes = (if q.clearCounts = true then 0 else r.seizes) ∧
      u.pressures = if q.clearCounts = true then 0 else r.pressures

/-- PROFILE_SET refuses a set, level or mask outside its encoding, and otherwise stores each named
value clamped to its range in the one profile, reporting CLAMPED; no group changes (R77, R78). -/
def Obligations.ProfileSetClampsNamedFields : Prop :=
  ∀ (s : State) (c : FetchedCell) (mask : Nat), s.InHand .profileSet c →
    mask = c.operand 18 1 →
    (15 < c.operand 16 1 ∨ 3 < c.operand 17 1 ∨ 64 ≤ mask →
      exec .profileSet s = .next (s.complete .badOperand [])) ∧
    ∀ (n : SetId) (l : Level) (o : Control), c.operand 16 1 = n.val → c.operand 17 1 = l.val →
      mask < 64 → o = (s.profileRow n)[l] →
      ∃ p : Control,
        exec .profileSet s = .next (State.complete .ok
          [⟨64, 1, n⟩, ⟨65, 1, l⟩,
            ⟨66, 1, if (mask.testBit 0 = true ∧ 16 < c.operand 20 1)
                ∨ (mask.testBit 1 = true ∧ 4095 < c.operand 26 2)
                ∨ (mask.testBit 2 = true ∧ 3 < c.operand 21 1)
                ∨ (mask.testBit 3 = true ∧ 65535 < c.operand 28 4)
                ∨ (mask.testBit 4 = true ∧ 127 < c.operand 22 1)
                ∨ (mask.testBit 5 = true ∧ (c.operand 24 2 < 8 ∨ 255 < c.operand 24 2))
              then 1 else 0⟩,
            ⟨68, 1, p.altAdmit⟩, ⟨69, 1, p.tier⟩, ⟨70, 1, p.holdOff⟩, ⟨71, 1, p.decay⟩,
            ⟨72, 2, p.reserve⟩, ⟨74, 2, p.stepInterval⟩]
          { s with profiles := s.profiles.set n ((s.profileRow n).set l p) }) ∧
        p.altAdmit = (if mask.testBit 0 = true then min (c.operand 20 1) 16 else o.altAdmit) ∧
        p.reserve = (if mask.testBit 1 = true then min (c.operand 26 2) 4095 else o.reserve) ∧
        p.tier.val = (if mask.testBit 2 = true then min (c.operand 21 1) 3 else o.tier.val) ∧
        p.stepInterval
          = (if mask.testBit 3 = true then min (c.operand 28 4) 65535 else o.stepInterval) ∧
        p.holdOff = (if mask.testBit 4 = true then min (c.operand 22 1) 127 else o.holdOff) ∧
        p.decay
          = if mask.testBit 5 = true then max 8 (min (c.operand 24 2) 255) else o.decay

/-- A pressure event counts, and takes one of three courses: in hold-off it only restarts the timer
with its own window, with T_last unset it begins a measurement, otherwise it makes a capture (next
statement). A change flag that it sets raises CHANGE (R64, R81, R82, R83, R91). -/
def Obligations.PressureTakesOneCourse : Prop :=
  (∀ (r : Group) (row : Vector Control 4) (now e : Tick), r.holdOffEnd = some e →
    r.pressure row now = ({ r with
      pressures := r.pressures + 1,
      quiet := some ⟨(r.quiet.map QuietTimer.window).getD 65535, now⟩ }, false)) ∧
  (∀ (r : Group) (row : Vector Control 4) (now : Tick), r.holdOffEnd = none → r.tLast = none →
    r.pressure row now = ({ r with
      pressures := r.pressures + 1, tLast := some now, quiet := some ⟨65535, now⟩ }, false)) ∧
  ∀ (s : State) (g : GroupId) (x : Group × Bool),
    x = (s.group g).pressure (s.profileRow (s.group g).profileSet) s.now →
    s.pressure g = { s with
      groups := s.groups.set g x.1,
      afl := if x.2 = true then s.afl.raise .change else s.afl }

/-- A pressure event outside hold-off with T_last set: the capture of R84 with its FI and window,
and then nothing, the step up of R85 or the advisory of R86, with the hold-off of R75. -/
def Obligations.CaptureMeasuresAndSteps : Prop :=
  ∀ (r : Group) (row : Vector Control 4) (now last : Tick) (h : List Nat) (fi : Nat),
    r.holdOffEnd = none → r.tLast = some last →
    h = (if 8 ≤ r.history.length then r.history.tail else r.history)
      ++ [max 1 (min 65535 (now - last).toNat)] →
    fi = (h.drop (h.length - min h.length r.depth.value)).sum / min h.length r.depth.value →
    (¬ (r.level.val < 3 ∧ fi ≤ r.control.stepInterval) →
      r.pressure row now = ({ r with
        pressures := r.pressures + 1, history := h, tLast := some now,
        quiet := some ⟨max 100 (min 65535 (fi * r.control.decay / 8)), now⟩ }, false)) ∧
    (r.level.val < 3 → fi ≤ r.control.stepInterval → r.mode = .auto →
      ∀ l : Level, l.val = r.level.val + 1 →
      r.pressure row now = ({ r with
        pressures := r.pressures + 1, history := h, tLast := some now, level := l,
        control := row[l], thinning := 0, change := .level,
        holdOffEnd := (if row[l].holdOff = 0 then none
          else some (now + BitVec.ofNat 32 (max 1 (fi * row[l].holdOff / 128)))),
        quiet := some ⟨max 100 (min 65535 (fi * row[l].decay / 8)), now⟩ }, true)) ∧
    (r.level.val < 3 → fi ≤ r.control.stepInterval → r.mode = .held →
      r.pressure row now = ({ r with
        pressures := r.pressures + 1, history := h, tLast := some now, change := .adviseUp,
        holdOffEnd := (if r.control.holdOff = 0 then none
          else some (now + BitVec.ofNat 32 (max 1 (fi * r.control.holdOff / 128)))),
        quiet := some ⟨max 100 (min 65535 (fi * r.control.decay / 8)), now⟩ }, true))

/-- The expiries: a quiet expiry steps an AUTO group down, advises in HELD and takes a group at
level 0 to rest; a hold-off end clears the hold-off; an overdue expiry sets the overdue flag (R74,
R75, R87, R88, R89, R91, R125). FI is that of R73. Each is a command of its own at its tick, an
overdue one by the limit that the tick has read or by the one now set (log entry 5). -/
def Obligations.ExpiriesActOnTheirRecord : Prop :=
  (∀ (r : Group) (k m : Nat),
    k = (match r.depth with
      | .k1 => 1
      | .k2 => 2
      | .k4 => 4
      | .k8 => 8) →
    m = min r.history.length k →
    r.fi = if r.history = [] then none
      else some ((r.history.drop (r.history.length - m)).sum / m)) ∧
  (∀ (s : State) (g : GroupId) (r : Group) (q : QuietTimer), r = s.group g →
    r.quiet = some q → q.window ≤ (s.now - q.start).toNat →
    (r.level = 0 → exec (.quietExpiry g) s = .next { s with
      groups := s.groups.set g
        { r with history := [], tLast := none, holdOffEnd := none, quiet := none } }) ∧
    (∀ (l : Level) (c : Control), r.mode = .auto → r.level.val = l.val + 1 →
      c = (s.profileRow r.profileSet)[l] →
      exec (.quietExpiry g) s = .next { s with
        groups := s.groups.set g { r with
          level := l, control := c, thinning := 0, change := .level,
          quiet := some ⟨match r.fi with
            | none => 65535
            | some f => max 100 (min 65535 (f * c.decay / 8)), s.now⟩ },
        afl := s.afl.raise .change }) ∧
    (r.mode = .held → r.level ≠ 0 → exec (.quietExpiry g) s = .next { s with
      groups := s.groups.set g
        { r with change := .adviseDown, quiet := some ⟨q.window, s.now⟩ },
      afl := s.afl.raise .change })) ∧
  (∀ (s : State) (g : GroupId), (s.group g).holdOffEnd = some s.now →
    exec (.holdOffEnd g) s = .next { s with
      groups := s.groups.set g { s.group g with holdOffEnd := none } }) ∧
  ∀ (s : State) (i : CtxId) (c : Context) (limit : Nat), c = s.context i →
    limit = s.ct.answerLimit ∨ limit = s.ct.limitAtTick → limit ≠ 0 →
    c.state = .seized → c.overdue = false → c.overdueReported = false →
    limit * 100 ≤ (s.now - c.seizeTick).toNat →
    exec (.overdueExpiry i) s = .next { s with
      ct := { s.ct with contexts := s.ct.contexts.set i { c with overdue := true } },
      afl := s.afl.raise .change }

/-! ## Destination analysis, route selection and crankback -/

/-- An area entry is read by its fields, each through its range (R34, section 13.5). A refinement
fits when it is used, has room in the number and agrees digit by digit (R55), and of those that fit
the longest wins, the earliest of equals; with none the area default stands (R56). -/
def Obligations.LongestEarliestRefinementWins : Prop :=
  (∀ line : List Byte,
    (areaEntryOf line).valid = (byteAt line 0).getLsbD 0 ∧
    (areaEntryOf line).routeList = leNat line 2 2 % 2048 ∧
    (areaEntryOf line).distance.val = leNat line 4 1 % 8 ∧
    (areaEntryOf line).refinements.length = 4 ∧
    ∀ n < 4, ∃ r, (areaEntryOf line).refinements[n]? = some r ∧
      r.length = leNat line (8 + 12 * n) 1 % 8 ∧
      r.routeList = leNat line (9 + 12 * n) 2 % 2048 ∧
      r.distance.val = leNat line (11 + 12 * n) 1 % 8 ∧ r.digits.length = 5 ∧
      ∀ j < 5, r.digits[j]? = some (leNat line (12 + 12 * n + j) 1 % 16)) ∧
  (∀ (r : Refinement) (dialled : List Nat), r.digits.length = 5 →
    (r.fits dialled = true ↔
      1 ≤ r.length ∧ r.length ≤ 5 ∧ 3 + r.length ≤ dialled.length ∧
      ∀ j < r.length, r.digits[j]? = dialled[3 + j]?)) ∧
  ∀ (key : Nat) (dialled : List Nat) (e : AreaEntry),
    ((∀ r ∈ e.refinements, r.fits dialled = false) →
      analyse key dialled e = ⟨.areaDefault, 0, some key, e.routeList, e.distance⟩) ∧
    ((∃ r ∈ e.refinements, r.fits dialled = true) →
      ∃ (n : Nat) (r : Refinement), e.refinements[n]? = some r ∧ r.fits dialled = true ∧
        (∀ (m : Nat) (r' : Refinement), e.refinements[m]? = some r' → r'.fits dialled = true →
          r'.length < r.length ∨ (r'.length = r.length ∧ n ≤ m)) ∧
        analyse key dialled e = ⟨.refinement, n + 1, some key, r.routeList, r.distance⟩)

/-- The operands of a SEIZE as the cell's bytes give them (section 13.3), and its refusals that
touch nothing: operands outside their encodings, then no free context, then an inactive carrier,
then a receivable at or above a non-zero credit limit, then too few digits; the result areas are all
zero (R50, R52, R58, R96, R97, R151, R176). The operand bytes CC had read are kept no longer (R57);
that they go in this step is the model's choice (log entry 29). -/
def Obligations.SeizeRefusesEarly : Prop :=
  ∀ (s d : State) (c : FetchedCell), s.InHand .seize c →
    d = { s with cc := { s.cc with cell := some { c with operands := [] } } } →
    (c.seizeRequest = none ↔
      63 < c.operand 16 1 ∨ 7 < c.operand 17 1 ∨ 1 < c.operand 18 1 ∨
      (c.operand 18 1 = 0 ∧ (16 < c.operand 19 1 ∨
        ∃ j < c.operand 19 1, 9 < c.operand (24 + j / 2) 1 / 16 ^ (j % 2) % 16)) ∨
      (c.operand 18 1 = 1 ∧ (2047 < c.operand 32 2 ∨ 7 < c.operand 34 1))) ∧
    (c.seizeRequest = none → exec .seize s = .next (d.complete .badOperand [])) ∧
    (∀ q, c.seizeRequest = some q →
      q.incoming.val = c.operand 16 1 ∧ q.cls.val = c.operand 17 1 ∧ q.ceiling = c.operand 20 4 ∧
      (c.operand 18 1 = 0 → q.address = .digits ((List.range (c.operand 19 1)).map
        (fun j => c.operand (24 + j / 2) 1 / 16 ^ (j % 2) % 16))) ∧
      (c.operand 18 1 = 1 → ∃ d : Distance, d.val = c.operand 34 1 ∧
        q.address = .override (c.operand 32 2) d)) ∧
    ∀ q, c.seizeRequest = some q →
      (s.ct.freeFifo = [] → exec .seize s = .next (d.complete .noContext [])) ∧
      (s.ct.freeFifo ≠ [] → (s.agreement q.incoming).active = false →
        exec .seize s = .next (d.complete .carrierInactive [])) ∧
      (s.ct.freeFifo ≠ [] → (s.agreement q.incoming).active = true →
        s.effCreditLimit q.incoming ≠ 0 →
        s.effCreditLimit q.incoming ≤ (s.account q.incoming).receivable →
        exec .seize s = .next (d.complete .creditExceeded [])) ∧
      (s.ct.freeFifo ≠ [] → (s.agreement q.incoming).active = true →
        s.effCreditLimit q.incoming = 0
          ∨ (s.account q.incoming).receivable < s.effCreditLimit q.incoming →
        ∀ ds, q.address = .digits ds → ds.length < 3 →
        exec .seize s = .next (d.complete .incompleteDigits []))

/-- The analysis record as result fields (R58), and stages 4 to 7 of a SEIZE that stages 1 to 3 let
pass (R98), with the codes of section 13.3: OVERRIDE takes its list and distance (R51), DIGITS its
area entry, held or by a fill at the area key (R37, R39, R53), an area not served ending NO_ROUTE
(R54); then the band in force (R27) and the incoming carrier's line at its fetch carrier, band and
distance (R38), held or by a fill, a line not VALID ending NO_TRANSIT_PRICE; then the route list, an
absent one ending NO_ROUTE, a delivered one leaving the walk before its first choice. The end of a
fill takes the same way on with the line installed (R40, R43). One step goes through every stage
whose line is held; the walk's choices are steps of their own (log entry 8). Carrier, class and
ceiling alone go on past stage 4, and the first step ends with no operand byte kept: the digits
stand at most with the fill of the area entry (R57, log entry 29). -/
def Obligations.SeizeStagesFindPlaceAndPrice : Prop :=
  ([AnalysisSource.none, .override, .areaDefault, .refinement].map AnalysisSource.code
    = [0, 1, 2, 3]) ∧
  (∀ s : State, s.tb.band.val = (s.tb.bands.toList.getD
    (s.tb.timeOfWeek.val / 8640000 * 48 + s.tb.timeOfWeek.val % 8640000 / 180000) 0).val) ∧
  (∀ a : Analysis, a.fields = [⟨74, 1, a.source.code⟩, ⟨75, 1, a.position⟩,
    ⟨76, 2, a.areaKey.getD 0⟩, ⟨78, 1, a.areaKey.isSome.toNat⟩, ⟨88, 2, a.routeList⟩,
    ⟨90, 1, a.distance⟩]) ∧
  (∀ (s d : State) (c : FetchedCell) (q : SeizeRequest), s.InHand .seize c →
    d = { s with cc := { s.cc with cell := some { c with operands := [] } } } →
    c.seizeRequest = some q → s.ct.freeFifo ≠ [] → (s.agreement q.incoming).active = true →
    s.effCreditLimit q.incoming = 0
      ∨ (s.account q.incoming).receivable < s.effCreditLimit q.incoming →
    (∀ n dist, q.address = .override n dist →
      exec .seize s = .next (seizeTransit q.toSeizeCall ⟨.override, 0, none, n, dist⟩ d)) ∧
    ∀ (d0 d1 d2 key : Nat) (ds : List Nat), q.address = .digits (d0 :: d1 :: d2 :: ds) →
      key = d0 * 100 + d1 * 10 + d2 →
      (∀ line, s.lookup ⟨.area, key⟩ = some line →
        exec .seize s = .next
          (seizeOnArea q.toSeizeCall key (d0 :: d1 :: d2 :: ds) line d)) ∧
      (s.lookup ⟨.area, key⟩ = none →
        exec .seize s = .next { d with
          cc := { d.cc with work := .awaitingLine },
          tau := { s.tau with fill := some ⟨⟨.area, key⟩,
            s.cc.anchor.destinationBase + BitVec.ofNat 64 (key * 64), .area q⟩ } })) ∧
  (∀ (q : SeizeCall) (key : Nat) (dialled : List Nat) (line : List Byte) (s : State),
    ((areaEntryOf line).valid = false →
      seizeOnArea q key dialled line s = s.complete .noRoute
        (⟨71, 1, 0⟩ :: Analysis.fields ⟨.none, 0, some key, 0, 0⟩)) ∧
    ((areaEntryOf line).valid = true →
      seizeOnArea q key dialled line s
        = seizeTransit q (analyse key dialled (areaEntryOf line)) s)) ∧
  (∀ (q : SeizeCall) (a : Analysis) (s : State) (tag : Tag),
    tag = ⟨.tariff, (if s.effGrid q.incoming = .own then q.incoming.val else 0) * 32
      + s.tb.band.val * 8 + a.distance.val⟩ →
    (s.lookup tag = none →
      seizeTransit q a s = { s with
        cc := { s.cc with work := .awaitingLine },
        tau := { s.tau with fill := some ⟨tag,
          s.cc.anchor.tariffBase + BitVec.ofNat 64 (tag.index * 16),
          .transit q a s.tb.band⟩ } }) ∧
    ∀ line, s.lookup tag = some line →
      seizeTransit q a s = seizeOnTransit q a s.tb.band line s) ∧
  (∀ (q : SeizeCall) (a : Analysis) (band : Band) (line : List Byte) (s : State),
    ((tariffLineOf line).valid = false →
      seizeOnTransit q a band line s
        = s.complete .noTransitPrice (⟨71, 1, band⟩ :: a.fields)) ∧
    ((tariffLineOf line).valid = true →
      seizeOnTransit q a band line s = seizeRoute
        ⟨q, a, band, (tariffLineOf line).transitRate, (tariffLineOf line).transitSetup⟩ s)) ∧
  (∀ (terms : SeizeTerms) (s : State) (n : Nat), n = terms.analysis.routeList →
    (s.cc.anchor.routeCount ≤ n →
      seizeRoute terms s
        = s.complete .noRoute (⟨71, 1, terms.band⟩ :: terms.analysis.fields)) ∧
    (n < s.cc.anchor.routeCount → s.lookup ⟨.route, n⟩ = none →
      seizeRoute terms s = { s with
        cc := { s.cc with work := .awaitingLine },
        tau := { s.tau with fill := some ⟨⟨.route, n⟩,
          s.cc.anchor.routeBase + BitVec.ofNat 64 (n * 64), .route terms⟩ } }) ∧
    ∀ line, n < s.cc.anchor.routeCount → s.lookup ⟨.route, n⟩ = some line →
      seizeRoute terms s = seizeOnRoute terms line s) ∧
  (∀ (terms : SeizeTerms) (line : List Byte) (s : State),
    (choicesOf line = none →
      seizeOnRoute terms line s
        = s.complete .noRoute (⟨71, 1, terms.band⟩ :: terms.analysis.fields)) ∧
    ∀ choices, choicesOf line = some choices →
      seizeOnRoute terms line s
        = { s with cc := { s.cc with work := .walking (.seize terms) [] choices } }) ∧
  ∀ (s u : State) (f : Fill) (data line : List Byte), s.tau.fill = some f →
    line = (List.range f.tag.kind.bytes).map (byteAt data) →
    u = { s with tau := ⟨(if 32 ≤ s.tau.lines.length then s.tau.lines.tail else s.tau.lines)
      ++ [⟨f.tag, line⟩], none⟩ } →
    (∀ (q : SeizeRequest) (d0 d1 d2 : Nat) (ds : List Nat), f.requester = .area q →
      q.address = .digits (d0 :: d1 :: d2 :: ds) →
      exec (.fillCompletion data) s = .next
        (seizeOnArea q.toSeizeCall (d0 * 100 + d1 * 10 + d2) (d0 :: d1 :: d2 :: ds) line u)) ∧
    (∀ q a band, f.requester = .transit q a band →
      exec (.fillCompletion data) s = .next (seizeOnTransit q a band line u)) ∧
    ∀ terms, f.requester = .route terms →
      exec (.fillCompletion data) s = .next (seizeOnRoute terms line u)

/-- The end of a seizure's walk. A choice that passes every check, with its owner's line held at a
step of SEIZE or delivered by the fill it waited for, is admitted in one event: the head of the free
FIFO becomes SEIZED with the fields of R105, the group is claimed, the result is ROUTED with the
fields of R107 and the attempt list of R106 with the reasons of section 13.3, and nothing else
changes. A walk with no choice left is ALL_BLOCKED (R51, R61, R64, R99, R100, R105, R106, R107,
R143). Each choice, and the end of the walk, is one step of SEIZE (log entry 8). -/
def Obligations.SeizeAdmitsFirstPassingChoice : Prop :=
  ([Reason.admitted, .excluded, .closed, .classBarred, .ownerInactive, .tableFault,
      .priceUnavailable, .overCeiling, .full, .reserved, .thinned].map Reason.code
    = [0, 1, 2, 3, 4, 5, 6, 7, 8, 9, 10]) ∧
  (∀ attempts : List Attempt, attemptFields attempts
    = ⟨73, 1, attempts.length⟩ :: (attempts.zipIdx.map (fun e =>
      [⟨96 + 4 * e.2, 1, e.1.choice⟩, ⟨97 + 4 * e.2, 1, e.1.reason.code⟩,
        ⟨98 + 4 * e.2, 2, e.1.group⟩])).flatten) ∧
  (∀ (s : State) (terms : SeizeTerms) (attempts : List Attempt),
    s.WalkInHand (.seize terms) attempts [] →
    exec .seize s = .next (s.complete .allBlocked
      (⟨71, 1, terms.band⟩ :: terms.analysis.fields ++ attemptFields attempts))) ∧
  ∀ (s u : State) (c : Instr) (terms : SeizeTerms) (q : SeizeCall) (a : Analysis)
    (attempts : List Attempt) (ch : Choice) (more : List Choice) (i : CtxId) (fifo : List CtxId)
    (g : Group) (quote : Nat) (line : List Byte),
    q = terms.call → a = terms.analysis → g = s.group ch.group → s.ct.freeFifo = i :: fifo →
    (c = .seize ∧ s.WalkInHand (.seize terms) attempts (ch :: more) ∧
        s.lookup (s.tariffTag g.owner terms.band a.distance) = some line ∧ u = s) ∨
      (∃ data f, c = .fillCompletion data ∧ s.tau.fill = some f ∧
        f.requester = .owner ⟨.seize terms, attempts, ch, more⟩ ∧
        line = (List.range f.tag.kind.bytes).map (byteAt data) ∧
        u = { s with tau :=
          ⟨(if 32 ≤ s.tau.lines.length then s.tau.lines.tail else s.tau.lines)
            ++ [⟨f.tag, line⟩], none⟩ }) →
    s.ChoicePasses ch q.cls q.ceiling quote (tariffLineOf line) →
    exec c s = .next (State.complete .routed
      ([⟨64, 2, (s.context i).generation.toNat * 4096 + i.val⟩, ⟨66, 2, ch.group⟩,
          ⟨68, 1, g.owner⟩, ⟨69, 1, ch.number⟩, ⟨70, 1, g.control.tier⟩, ⟨71, 1, terms.band⟩,
          ⟨72, 1, a.distance⟩, ⟨80, 4, quote⟩, ⟨84, 4, terms.transitRate⟩]
        ++ a.fields ++ attemptFields (attempts ++ [⟨ch.number, ch.group, .admitted⟩]))
      { u with
        groups := s.groups.set ch.group (g.admitted ch.alternate),
        ct := { s.ct with
          freeFifo := fifo,
          contexts := s.ct.contexts.set i
            { state := .seized, generation := (s.context i).generation, incoming := q.incoming,
              cls := q.cls, ceiling := q.ceiling, band := terms.band, distance := a.distance,
              routeList := a.routeList, source := a.source, transitRate := terms.transitRate,
              transitSetup := terms.transitSetup, minIn := s.effMinSeconds q.incoming,
              incIn := s.effIncrement q.incoming, group := ch.group, choice := ch.number,
              owner := g.owner, tier := g.control.tier, quote := quote,
              handoverSetup := (tariffLineOf line).handoverSetup,
              minOut := s.effMinSeconds g.owner, incOut := s.effIncrement g.owner,
              crankbacks := 0, seizeTick := s.now, answerTick := none, answerTime := none,
              overdue := false, overdueReported := false } } })

/-- CRANKBACK refuses a stale handle and an ANSWERED call without effect, and frees a call already
moved twice: a pressure event on G, BUSY of G falls by 1, and the context joins the tail of the free
FIFO with its generation advanced (R109, R110, R119, R120). -/
def Obligations.CrankbackRefusesAndLimits : Prop :=
  ∀ (s : State) (c : FetchedCell) (i : CtxId) (x : Context), s.InHand .crankback c →
    i.val = c.operand 16 2 % 4096 → x = s.context i →
    (x.state = .free ∨ x.generation ≠ BitVec.ofNat 4 (c.operand 16 2 / 4096) →
      exec .crankback s = .next (s.complete .staleHandle
        [⟨64, 2, c.operand 16 2⟩, ⟨66, 1, x.state.code⟩, ⟨67, 1, x.generation.toNat⟩])) ∧
    (x.state = .answered → x.generation = BitVec.ofNat 4 (c.operand 16 2 / 4096) →
      exec .crankback s = .next (s.complete .wrongState
        [⟨64, 2, c.operand 16 2⟩, ⟨66, 1, x.state.code⟩, ⟨67, 1, x.generation.toNat⟩,
          ⟨92, 2, x.group⟩])) ∧
    (x.state = .seized → x.generation = BitVec.ofNat 4 (c.operand 16 2 / 4096) →
      x.crankbacks = 2 →
      ∀ p, p = s.pressure x.group →
      exec .crankback s = .next (State.complete .crankbackLimit
        [⟨64, 2, c.operand 16 2⟩, ⟨92, 2, x.group⟩]
        { p with
          groups := p.groups.set x.group
            { p.group x.group with busy := (p.group x.group).busy - 1 },
          ct := { s.ct with
            contexts := s.ct.contexts.set i { x with
              state := .free, generation := x.generation + 1, overdue := false,
              overdueReported := false },
            freeFifo := s.ct.freeFifo ++ [i] } }))

/-- A CRANKBACK below the limit raises a pressure event on G in its first step and takes the
context's route list anew, held or by a fill: the walk stands before the choices after the frozen
one, before none where the list is absent (R111, R112). A choice on another group H that passes
every check moves the call in one event, BUSY of G less 1, H admitted, the owner side re-frozen and
the incoming side as frozen, with the ROUTED result of R115; a walk with no choice left frees the
call with ALL_BLOCKED (R63, R99, R100, R113, R114, R115). Each choice, and the end of the walk, is
one step of CRANKBACK (log entry 8). -/
def Obligations.CrankbackMovesOrFreesCall : Prop :=
  (∀ (s p : State) (c : FetchedCell) (i : CtxId) (x : Context) (n : Nat), s.InHand .crankback c →
    i.val = c.operand 16 2 % 4096 → x = s.context i → x.state = .seized →
    x.generation = BitVec.ofNat 4 (c.operand 16 2 / 4096) → x.crankbacks < 2 →
    p = s.pressure x.group → n = x.routeList →
    (s.cc.anchor.routeCount ≤ n →
      exec .crankback s
        = .next { p with cc := { s.cc with work := .walking (.crankback i) [] [] } }) ∧
    (n < s.cc.anchor.routeCount → s.lookup ⟨.route, n⟩ = none →
      exec .crankback s = .next { p with
        cc := { s.cc with work := .awaitingLine },
        tau := { s.tau with fill := some ⟨⟨.route, n⟩,
          s.cc.anchor.routeBase + BitVec.ofNat 64 (n * 64), .crankRoute i⟩ } }) ∧
    ∀ line, n < s.cc.anchor.routeCount → s.lookup ⟨.route, n⟩ = some line →
      exec .crankback s = .next { p with cc := { s.cc with
        work := .walking (.crankback i) [] (((choicesOf line).getD []).drop x.choice) } }) ∧
  (∀ (s : State) (f : Fill) (data line : List Byte) (i : CtxId), s.tau.fill = some f →
    f.requester = .crankRoute i → line = (List.range f.tag.kind.bytes).map (byteAt data) →
    exec (.fillCompletion data) s = .next { s with
      tau := ⟨(if 32 ≤ s.tau.lines.length then s.tau.lines.tail else s.tau.lines)
        ++ [⟨f.tag, line⟩], none⟩,
      cc := { s.cc with
        work := .walking (.crankback i) []
          (((choicesOf line).getD []).drop (s.context i).choice) } }) ∧
  (∀ (s : State) (i : CtxId) (x : Context) (attempts : List Attempt),
    s.WalkInHand (.crankback i) attempts [] → x = s.context i → x.state ≠ .free →
    exec .crankback s = .next (State.complete .allBlocked
      ([⟨64, 2, x.generation.toNat * 4096 + i.val⟩, ⟨92, 2, x.group⟩] ++ attemptFields attempts)
      { s with
        groups := s.groups.set x.group
          { s.group x.group with busy := (s.group x.group).busy - 1 },
        ct := { s.ct with
          contexts := s.ct.contexts.set i { x with
            state := .free, generation := x.generation + 1, overdue := false,
            overdueReported := false },
          freeFifo := s.ct.freeFifo ++ [i] } })) ∧
  ∀ (s u : State) (c : Instr) (i : CtxId) (x : Context) (attempts : List Attempt) (ch : Choice)
    (more : List Choice) (h : Group) (quote : Nat) (line : List Byte),
    x = s.context i → x.state ≠ .free → ch.group ≠ x.group → h = s.group ch.group →
    (c = .crankback ∧ s.WalkInHand (.crankback i) attempts (ch :: more) ∧
        s.lookup (s.tariffTag h.owner x.band x.distance) = some line ∧ u = s) ∨
      (∃ data f, c = .fillCompletion data ∧ s.tau.fill = some f ∧
        f.requester = .owner ⟨.crankback i, attempts, ch, more⟩ ∧
        line = (List.range f.tag.kind.bytes).map (byteAt data) ∧
        u = { s with tau :=
          ⟨(if 32 ≤ s.tau.lines.length then s.tau.lines.tail else s.tau.lines)
            ++ [⟨f.tag, line⟩], none⟩ }) →
    s.ChoicePasses ch x.cls x.ceiling quote (tariffLineOf line) →
    exec c s = .next (State.complete .routed
      ([⟨64, 2, x.generation.toNat * 4096 + i.val⟩, ⟨66, 2, ch.group⟩, ⟨68, 1, h.owner⟩,
          ⟨69, 1, ch.number⟩, ⟨70, 1, h.control.tier⟩, ⟨71, 1, x.band⟩, ⟨72, 1, x.distance⟩,
          ⟨80, 4, quote⟩, ⟨84, 4, x.transitRate⟩, ⟨91, 1, x.crankbacks + 1⟩, ⟨92, 2, x.group⟩]
        ++ attemptFields (attempts ++ [⟨ch.number, ch.group, .admitted⟩]))
      { u with
        groups := (s.groups.set x.group
          { s.group x.group with busy := (s.group x.group).busy - 1 }).set ch.group
            (h.admitted ch.alternate),
        ct := { s.ct with
          contexts := s.ct.contexts.set i { x with
            group := ch.group, choice := ch.number, owner := h.owner, tier := h.control.tier,
            quote := quote, handoverSetup := (tariffLineOf line).handoverSetup,
            minOut := s.effMinSeconds h.owner, incOut := s.effIncrement h.owner,
            crankbacks := x.crankbacks + 1 } } })

/-- A route list and a tariff line are read by their fields (R35, R36, section 13.5). A crankback's
choice on its group is excluded and a seizure excludes nothing; class, ceiling, band and distance
are the request's, or the context's for a crankback (R99, R101, R112). Checks 1 to 4 of a choice in
the order of R99, then checks 6 to 10 on the delivered line: the first that fails gives the reason;
FULL alone raises a pressure event, and a THINNED choice alone moves the accumulator (R99, R102,
R103, R104). A choice that fails is recorded and the walk goes on before the next, its effects
standing; one whose owner's line is missed waits for that line (R37, R38, R39, R93, R99, R100). Each
choice is one step of the walk's command, and the rest of one that waited is the fill's end (log
entry 8). -/
def Obligations.ChoicesAreCheckedInOrder : Prop :=
  (∀ (s : State) (terms : SeizeTerms) (i : CtxId),
    WalkFor.excluded s (.seize terms) = none ∧
    WalkFor.excluded s (.crankback i) = some (s.context i).group ∧
    WalkFor.cls s (.seize terms) = terms.call.cls ∧
    WalkFor.cls s (.crankback i) = (s.context i).cls ∧
    WalkFor.ceiling s (.seize terms) = terms.call.ceiling ∧
    WalkFor.ceiling s (.crankback i) = (s.context i).ceiling ∧
    WalkFor.band s (.seize terms) = terms.band ∧
    WalkFor.band s (.crankback i) = (s.context i).band ∧
    WalkFor.distance s (.seize terms) = terms.analysis.distance ∧
    WalkFor.distance s (.crankback i) = (s.context i).distance) ∧
  (∀ (line : List Byte) (count : Nat), count = min 6 (leNat line 0 1 % 8) →
    (count = 0 → choicesOf line = none) ∧
    (count ≠ 0 → ∃ l, choicesOf line = some l ∧ l.length = count ∧
      ∀ n < count, ∃ ch, l[n]? = some ch ∧ ch.number = n + 1 ∧
        ch.group.val = leNat line (8 + 8 * n) 2 % 512 ∧
        ch.alternate = (byteAt line (10 + 8 * n)).getLsbD 0 ∧
        ch.classMask = byteAt line (11 + 8 * n)) ∧
    tariffLineOf line = ⟨(byteAt line 0).getLsbD 0, leNat line 2 2, leNat line 4 3, leNat line 8 2,
      leNat line 10 3⟩) ∧
  (∀ (s : State) (p : WalkFor) (attempts : List Attempt) (ch : Choice) (more : List Choice)
    (owner : CarrierId) (tag : Tag), s.WalkInHand p attempts (ch :: more) →
    owner = (s.group ch.group).owner →
    tag = ⟨.tariff, (if s.effGrid owner = .own then owner.val else 0) * 32 + (p.band s).val * 8
      + (p.distance s).val⟩ →
    (∀ reason, firstPart p ch s = some reason →
      exec p.command s = .next { s with cc := { s.cc with
        work := .walking p (attempts ++ [⟨ch.number, ch.group, reason⟩]) more } }) ∧
    (firstPart p ch s = none → s.lookup tag = none →
      exec p.command s = .next { s with
        cc := { s.cc with work := .awaitingLine },
        tau := { s.tau with fill := some ⟨tag,
          s.cc.anchor.tariffBase + BitVec.ofNat 64 (tag.index * 16),
          .owner ⟨p, attempts, ch, more⟩⟩ } }) ∧
    ∀ line reason t, firstPart p ch s = none → s.lookup tag = some line →
      secondPart p ch (tariffLineOf line) s = .rejected reason t →
      exec p.command s = .next { t with cc := { s.cc with
        work := .walking p (attempts ++ [⟨ch.number, ch.group, reason⟩]) more } }) ∧
  (∀ (s u t : State) (f : Fill) (data line : List Byte) (w : Walk) (reason : Reason),
    s.tau.fill = some f → f.requester = .owner w →
    line = (List.range f.tag.kind.bytes).map (byteAt data) →
    u = { s with tau := ⟨(if 32 ≤ s.tau.lines.length then s.tau.lines.tail else s.tau.lines)
      ++ [⟨f.tag, line⟩], none⟩ } →
    secondPart w.purpose w.current (tariffLineOf line) u = .rejected reason t →
    exec (.fillCompletion data) s = .next { t with cc := { s.cc with
      work := .walking w.purpose (w.attempts ++ [⟨w.current.number, w.current.group, reason⟩])
        w.rest } }) ∧
  ∀ (s : State) (p : WalkFor) (ch : Choice) (line : TariffLine) (r : Group) (quote : Nat),
    r = s.group ch.group →
    quote = (line.handoverRate * (s.effPremium r.owner)[r.control.tier] + 64) / 128 →
    firstPart p ch s =
      (if p.excluded s = some ch.group then some .excluded
      else if r.isOpen = false then some .closed
      else if ch.classMask.getLsbD (p.cls s).val = false then some .classBarred
      else if (s.agreement r.owner).active = false then some .ownerInactive
      else none) ∧
    (line.valid = false → secondPart p ch line s = .rejected .priceUnavailable s) ∧
    (line.valid = true → p.ceiling s ≠ 0 → p.ceiling s < quote →
      secondPart p ch line s = .rejected .overCeiling s) ∧
    (line.valid = true → (p.ceiling s = 0 ∨ quote ≤ p.ceiling s) →
      (r.provisioned ≤ r.busy →
        secondPart p ch line s = .rejected .full (s.pressure ch.group)) ∧
      (r.busy < r.provisioned → ch.alternate = false →
        secondPart p ch line s = .passed quote r.control.tier s) ∧
      (r.busy < r.provisioned → ch.alternate = true →
        (r.provisioned - r.busy ≤ r.control.reserve →
          secondPart p ch line s = .rejected .reserved s) ∧
        (r.control.reserve < r.provisioned - r.busy →
          (r.thinning + r.control.altAdmit < 16 →
            secondPart p ch line s = .rejected .thinned { s with
              groups := s.groups.set ch.group
                { r with thinning := r.thinning + r.control.altAdmit } }) ∧
          (16 ≤ r.thinning + r.control.altAdmit →
            secondPart p ch line s = .passed quote r.control.tier { s with
              groups := s.groups.set ch.group
                { r with thinning := r.thinning + r.control.altAdmit - 16 } }))))

/-! ## Call contexts -/

/-- ANSWER: a stale handle and an ANSWERED context change nothing, a SEIZED one becomes ANSWERED
with the answer tick an event age before now, clamped to the seize tick, the time of week of this
event and both overdue marks clear (R119, R121). The answer tick field of a stale result is 0 (log
entry 12). -/
def Obligations.AnswerMarksTheCall : Prop :=
  ∀ (s : State) (c : FetchedCell) (i : CtxId) (x : Context) (handle : Nat), s.InHand .answer c →
    handle = c.operand 16 2 → i.val = handle % 4096 → x = s.context i →
    (x.state = .free ∨ x.generation ≠ BitVec.ofNat 4 (handle / 4096) →
      exec .answer s = .next (s.complete .staleHandle
        [⟨64, 2, handle⟩, ⟨66, 1, x.state.code⟩, ⟨67, 1, x.generation.toNat⟩])) ∧
    (∀ a, x.state = .answered → x.generation = BitVec.ofNat 4 (handle / 4096) →
      x.answerTick = some a →
      exec .answer s = .next (s.complete .wrongState
        [⟨64, 2, handle⟩, ⟨66, 1, 2⟩, ⟨67, 1, x.generation.toNat⟩, ⟨68, 4, a.toNat⟩])) ∧
    (x.state = .seized → x.generation = BitVec.ofNat 4 (handle / 4096) →
      ∀ (clamped : Bool) (tick : Tick),
      clamped = decide ((s.now - x.seizeTick).toNat < c.operand 18 1) →
      tick = (if clamped = true then x.seizeTick
        else s.now - BitVec.ofNat 32 (c.operand 18 1)) →
      exec .answer s = .next (State.complete .ok
        [⟨64, 2, handle⟩, ⟨66, 1, clamped.toNat⟩, ⟨68, 4, tick.toNat⟩,
          ⟨72, 4, s.tb.timeOfWeek.val⟩, ⟨76, 4, x.seizeTick.toNat⟩]
        { s with
          ct := { s.ct with
            contexts := s.ct.contexts.set i { x with
              state := .answered, answerTick := some tick,
              answerTime := some s.tb.timeOfWeek, overdue := false,
              overdueReported := false } } }))

/-- RELEASE of a SEIZED call, and the refusals of RELEASE: a cause outside the four is BAD_OPERAND,
a stale handle is refused, and a SEIZED context is freed without a charge, with a pressure event on
its group for FAR_CONGESTION (R119, R120, R122, R123). -/
def Obligations.ReleaseOfSeizedCallFreesIt : Prop :=
  ∀ (s : State) (c : FetchedCell) (i : CtxId) (x : Context) (handle : Nat), s.InHand .release c →
    handle = c.operand 16 2 → i.val = handle % 4096 → x = s.context i →
    (3 < c.operand 18 1 → exec .release s = .next (s.complete .badOperand [])) ∧
    (c.operand 18 1 ≤ 3 →
      x.state = .free ∨ x.generation ≠ BitVec.ofNat 4 (handle / 4096) →
      exec .release s = .next (s.complete .staleHandle
        [⟨64, 2, handle⟩, ⟨66, 1, x.state.code⟩, ⟨67, 1, x.generation.toNat⟩])) ∧
    (c.operand 18 1 ≤ 3 → x.state = .seized →
      x.generation = BitVec.ofNat 4 (handle / 4096) →
      ∀ (clamped : Bool) (tick : Tick) (p : State),
      clamped = decide ((s.now - x.seizeTick).toNat < c.operand 19 1) →
      tick = (if clamped = true then x.seizeTick
        else s.now - BitVec.ofNat 32 (c.operand 19 1)) →
      p = (if c.operand 18 1 = 2 then s.pressure x.group else s) →
      exec .release s = .next (State.complete .ok
        [⟨64, 2, handle⟩, ⟨66, 2, x.group⟩, ⟨70, 1, c.operand 18 1⟩,
          ⟨71, 1, 2 * clamped.toNat⟩, ⟨72, 4, tick.toNat⟩]
        { p with
          groups := p.groups.set x.group
            { p.group x.group with busy := (p.group x.group).busy - 1 },
          ct := { s.ct with
            contexts := s.ct.contexts.set i { x with
              state := .free, generation := x.generation + 1, overdue := false,
              overdueReported := false },
            freeFifo := s.ct.freeFifo ++ [i] } }))

/-- RELEASE of an ANSWERED call: the release tick is fixed at the dispatch, clamped to the answer
tick; with a free hold-store entry the charge event is taken at once, its record waking a JW that
rests in RUNNING, without one the cell goes to STALLED with nothing changed, and the stalled cell
takes the same charge event when an entry is free (R9, R122, R124, R144, R150, R161, R162). The
causes are the four of section 13.4. That the stalled cell's event is a command of its own is the
model's reading (log entry 7). -/
def Obligations.ReleaseOfAnsweredCallIsCharged : Prop :=
  ([0, 1, 2, 3].map releaseCause
      = [ReleaseCause.normal, .abandoned, .farCongestion, .failure].map some ∧
    (∀ n, 3 < n → releaseCause n = none) ∧
    [ReleaseCause.normal, .abandoned, .farCongestion, .failure].map ReleaseCause.code
      = [0, 1, 2, 3]) ∧
  (∀ (s : State) (c : FetchedCell) (i : CtxId) (x : Context) (answered : Tick)
    (r : PendingRelease), s.InHand .release c → i.val = c.operand 16 2 % 4096 →
    x = s.context i → x.state = .answered →
    x.generation = BitVec.ofNat 4 (c.operand 16 2 / 4096) → x.answerTick = some answered →
    r.ctx = i → releaseCause (c.operand 18 1) = some r.cause →
    r.ageClamped = decide ((s.now - answered).toNat < c.operand 19 1) →
    r.releaseTick = (if r.ageClamped = true then answered
      else s.now - BitVec.ofNat 32 (c.operand 19 1)) →
    (s.jw.hold.length < 32 →
      ∃ t, exec .release s = .next t ∧ s.ReleaseCharged r x (x.charge i r) t) ∧
    (32 ≤ s.jw.hold.length →
      exec .release s = .next (State.settlePoll { s with
        cc := { s.cc with state := .stalled, work := .stalledRelease r } }))) ∧
  ∀ (s : State) (r : PendingRelease) (x : Context), s.cc.state = .stalled →
    s.cc.work = .stalledRelease r → x = s.context r.ctx → x.state = .answered →
    (s.jw.hold.length < 32 →
      ∃ t, exec .stalledCellResume s = .next t
        ∧ s.ReleaseCharged r x (x.charge r.ctx r) t) ∧
    (32 ≤ s.jw.hold.length → exec .stalledCellResume s = .next s)

/-- REPORT_CHANGES scans groups and then contexts in ascending order and takes at most 12 set flags:
each flag taken is cleared, an overdue one with its reported mark set, every other flag stands, and
MORE says that a set flag is left (R127). Each entry is four bytes: the kind, the group or the
handle, the level or the state SEIZED (section 13.4). -/
def Obligations.ReportChangesCollectsTwelve : Prop :=
  ∀ (s : State) (c : FetchedCell) (taken : List Change), s.InHand .reportChanges c →
    taken = s.changes.take 12 →
    (∀ g, Change.group g ∈ s.changes ↔ (s.group g).change ≠ .none) ∧
    (∀ i, Change.context i ∈ s.changes ↔ (s.context i).overdue = true) ∧
    s.changes.Pairwise (fun a b =>
      match a, b with
      | .group g, .group h => g < h
      | .group _, .context _ => True
      | .context _, .group _ => False
      | .context i, .context j => i < j) ∧
    ∃ t, exec .reportChanges s = .next t ∧
      t = { s with
        cc := t.cc, tb := { s.tb with pollCounter := t.tb.pollCounter }, groups := t.groups,
        ct := { s.ct with contexts := t.ct.contexts } } ∧
      (∀ g, t.group g = if Change.group g ∈ taken then
        { s.group g with change := .none } else s.group g) ∧
      (∀ i, t.context i = if Change.context i ∈ taken then
        { s.context i with overdue := false, overdueReported := true } else s.context i) ∧
      t.cc = { s.cc with
        state := .working, work := .completing,
        flight := some ⟨.resultWrite .ok, ⟨s.cc.held, 64, .write (layout 64 64
          ([⟨64, 1, taken.length⟩, ⟨65, 1, if 12 < s.changes.length then 1 else 0⟩]
            ++ (taken.zipIdx.map (fun e => (match e.1 with
              | .group g =>
                [⟨68 + 4 * e.2, 1, match (s.group g).change with
                    | .none => 0
                    | .level => 1
                    | .adviseUp => 2
                    | .adviseDown => 3⟩,
                  ⟨69 + 4 * e.2, 2, g.val⟩, ⟨71 + 4 * e.2, 1, (s.group g).level.val⟩]
              | .context i =>
                [⟨68 + 4 * e.2, 1, 4⟩,
                  ⟨69 + 4 * e.2, 2, (s.context i).generation.toNat * 4096 + i.val⟩,
                  ⟨71 + 4 * e.2, 1, 1⟩] : List Field))).flatten))⟩⟩ }

/-- ENGINE_SET with its set flag clear changes nothing, with it set stores the limit, 3600 for a
larger one; it reports the limit before and after and the three counts of contexts (R126). -/
def Obligations.EngineSetStoresAnswerLimit : Prop :=
  ∀ (s : State) (c : FetchedCell) (limit : Nat), s.InHand .engineSet c →
    limit = (if c.flag 16 = true then min 3600 (c.operand 18 2) else s.ct.answerLimit) →
    exec .engineSet s = .next (State.complete .ok
      [⟨64, 2, s.ct.answerLimit⟩, ⟨66, 2, limit⟩,
        ⟨68, 1, if c.flag 16 = true ∧ 3600 < c.operand 18 2 then 1 else 0⟩,
        ⟨70, 2, s.ct.freeFifo.length⟩,
        ⟨72, 2, (List.finRange 4096).countP (fun i => (s.context i).state == .seized)⟩,
        ⟨74, 2, (List.finRange 4096).countP (fun i => (s.context i).state == .answered)⟩]
      { s with ct := { s.ct with answerLimit := limit } })

/-- The three queries change nothing but the completion of their cell: an index out of range is
BAD_OPERAND, any other completes with OK and the record as it stands (R72, R129, R141). The fields
of a group result are spelled with those of R73, R74 and R75, CLAMPED being that of a GROUP_SET
(R69, section 13.4). An effective value is the carrier's own where it is carrier 0 or its override
bit is set, and carrier 0's otherwise, and an effective GRID of DEFAULT gives carrier 0 as the fetch
carrier (R38, R133). -/
def Obligations.QueriesChangeNothing : Prop :=
  (CallState.free.code = 0 ∧ CallState.seized.code = 1 ∧ CallState.answered.code = 2 ∧
    Grid.own.code = 0 ∧ Grid.default.code = 1) ∧
  (∀ (g : GroupId) (r : Group) (now : Tick) (clamped : Bool) (k m : Nat) (fi : Option Nat),
    k = (match r.depth with
      | .k1 => 1
      | .k2 => 2
      | .k4 => 4
      | .k8 => 8) →
    m = min r.history.length k →
    fi = (if r.history = [] then none
      else some ((r.history.drop (r.history.length - m)).sum / m)) →
    r.resultFields g now clamped
      = [⟨64, 2, g.val⟩, ⟨66, 2, r.provisioned⟩, ⟨68, 2, r.busy⟩, ⟨70, 1, r.owner.val⟩,
        ⟨71, 1, r.profileSet.val⟩, ⟨72, 1, k⟩, ⟨73, 1, r.level.val⟩,
        ⟨74, 1, r.isOpen.toNat + (if r.mode = .held then 2 else 0)
          + (if r.level = 0 ∧ r.quiet = none then 4 else 0)
          + (if r.history = [] then 0 else 8) + 16 * clamped.toNat⟩,
        ⟨75, 1, match r.change with
          | .none => 0
          | .level => 1
          | .adviseUp => 2
          | .adviseDown => 3⟩,
        ⟨76, 1, r.control.altAdmit⟩, ⟨77, 1, r.control.tier.val⟩, ⟨78, 2, r.control.reserve⟩,
        ⟨80, 2, r.control.stepInterval⟩, ⟨82, 1, r.control.holdOff⟩, ⟨83, 1, r.control.decay⟩,
        ⟨84, 1, r.thinning⟩, ⟨85, 1, r.history.length⟩, ⟨86, 2, fi.getD 0⟩,
        ⟨88, 2, match r.quiet with
          | none => 0
          | some q => q.window - (now - q.start).toNat⟩,
        ⟨90, 2, match r.holdOffEnd with
          | none => 0
          | some e => (e - now).toNat⟩,
        ⟨92, 4, r.seizes.toNat⟩, ⟨96, 4, r.pressures.toNat⟩]) ∧
  (∀ (s : State) (n : CarrierId) (source : Nat → Agreement),
    (∀ b, source b = if n = 0 ∨ (s.agreement n).override.getLsbD b = true then s.agreement n
      else s.agreement 0) →
    s.effMinSeconds n = (source 1).minSeconds ∧ s.effIncrement n = (source 2).increment ∧
    s.effPremium n = (source 3).premium ∧ s.effCreditLimit n = (source 4).creditLimit ∧
    s.effGrid n = (source 5).grid ∧
    s.fetchCarrier n = (if (source 5).grid = .own then n else 0) ∧
    ∀ (b : Band) (d : Distance), s.tariffTag n b d
      = ⟨.tariff, (if (source 5).grid = .own then n.val else 0) * 32 + b.val * 8 + d.val⟩) ∧
  (∀ (s : State) (c : FetchedCell), s.InHand .queryGroup c →
    (511 < c.operand 16 2 → exec .queryGroup s = .next (s.complete .badOperand [])) ∧
    ∀ g : GroupId, c.operand 16 2 = g.val →
      exec .queryGroup s = .next (s.complete .ok ((s.group g).resultFields g s.now false))) ∧
  (∀ (s : State) (c : FetchedCell), s.InHand .queryContext c →
    (4095 < c.operand 16 2 → exec .queryContext s = .next (s.complete .badOperand [])) ∧
    ∀ (i : CtxId) (x : Context), c.operand 16 2 = i.val → x = s.context i →
      exec .queryContext s = .next (s.complete .ok
        [⟨64, 1, x.state.code⟩, ⟨65, 1, x.generation.toNat⟩,
          ⟨66, 2, x.generation.toNat * 4096 + i.val⟩, ⟨68, 1, x.incoming⟩, ⟨69, 1, x.cls⟩,
          ⟨70, 1, x.owner⟩, ⟨71, 1, x.tier⟩, ⟨72, 1, x.band⟩, ⟨73, 1, x.distance⟩,
          ⟨74, 1, x.choice⟩, ⟨75, 1, x.crankbacks⟩, ⟨76, 1, x.source.code⟩,
          ⟨77, 1, x.overdue.toNat + 2 * x.overdueReported.toNat
            + 4 * x.answerTick.isSome.toNat⟩,
          ⟨78, 2, x.group⟩, ⟨80, 2, x.routeList⟩, ⟨82, 2, x.handoverSetup⟩,
          ⟨84, 2, x.transitSetup⟩, ⟨86, 2, x.minOut⟩, ⟨88, 2, x.minIn⟩, ⟨90, 1, x.incOut⟩,
          ⟨91, 1, x.incIn⟩, ⟨92, 4, x.ceiling⟩, ⟨96, 4, x.quote⟩, ⟨100, 4, x.transitRate⟩,
          ⟨104, 4, x.seizeTick.toNat⟩, ⟨108, 4, (x.answerTick.getD 0).toNat⟩,
          ⟨112, 4, (x.answerTime.getD 0).val⟩,
          ⟨116, 4, if x.state = .free then 0 else (s.now - x.seizeTick).toNat⟩])) ∧
  ∀ (s : State) (c : FetchedCell), s.InHand .queryCarrier c →
    (63 < c.operand 16 1 → exec .queryCarrier s = .next (s.complete .badOperand [])) ∧
    ∀ (n : CarrierId) (a : Agreement) (x : Account), c.operand 16 1 = n.val →
      a = s.agreement n → x = s.account n →
      exec .queryCarrier s = .next (s.complete .ok
        [⟨64, 1, n⟩,
          ⟨65, 1, 2 * s.agr.freezePending.toNat + 4 * s.agr.freezeInForce.toNat
            + 8 * x.sat.toNat⟩,
          ⟨66, 1, a.override.toNat⟩, ⟨67, 1, a.fixed.toNat⟩, ⟨68, 1, a.active.toNat⟩,
          ⟨69, 1, a.grid.code⟩, ⟨70, 1, a.increment⟩, ⟨71, 1, (s.effGrid n).code⟩,
          ⟨72, 2, a.minSeconds⟩, ⟨74, 2, s.effMinSeconds n⟩, ⟨76, 1, a.premium[0]⟩,
          ⟨77, 1, a.premium[1]⟩, ⟨78, 1, a.premium[2]⟩, ⟨79, 1, a.premium[3]⟩,
          ⟨80, 1, (s.effPremium n)[0]⟩, ⟨81, 1, (s.effPremium n)[1]⟩,
          ⟨82, 1, (s.effPremium n)[2]⟩, ⟨83, 1, (s.effPremium n)[3]⟩,
          ⟨84, 1, s.effIncrement n⟩, ⟨86, 6, a.creditLimit⟩, ⟨92, 6, s.effCreditLimit n⟩,
          ⟨98, 6, x.payable⟩, ⟨104, 6, x.receivable⟩, ⟨112, 4, x.outSeconds⟩,
          ⟨116, 4, x.inSeconds⟩, ⟨120, 4, x.outCalls⟩, ⟨124, 4, x.inCalls⟩])

/-! ## Agreements and settlement -/

/-- AGREE_SET is refused in the order of R135 and R136: operands outside their encodings, then
FROZEN while the freeze is in force and any mask names a term, then FIELD_FIXED when a term to be
written is fixed; no refusal changes an agreement. One that is not refused writes the named terms
clamped, then the override bits, then the fixed flags of one agreement, and a changed own GRID drops
the carrier's 32 TARIFF lines in the same event; its OK result is that of R138, the agreement as it
then stands (R46, R137, R138). That bytes 65 and 66 of a FIELD_FIXED result are 0 is the model's
reading (log entry 21). -/
def Obligations.AgreeSetRefusesOrWritesNamedTerms : Prop :=
  (∀ (s : State) (c : FetchedCell), s.InHand .agreeSet c →
    (c.agreeRequest = none ↔
      63 < c.operand 16 1 ∨ 64 ≤ c.operand 17 1 ∨ 64 ≤ c.operand 20 1 ∨
      64 ≤ c.operand 18 1 ∨ (c.operand 18 1).testBit 0 = true ∨
      64 ≤ c.operand 19 1 ∨ (c.operand 19 1).testBit 0 = true ∨
      (∃ b, (c.operand 18 1).testBit b = true ∧ (c.operand 19 1).testBit b = true) ∨
      ((c.operand 17 1).testBit 0 = true ∧ 1 < c.operand 21 1) ∨
      ((c.operand 17 1).testBit 5 = true ∧ 1 < c.operand 22 1)) ∧
    (c.agreeRequest = none → exec .agreeSet s = .next (s.complete .badOperand [])) ∧
    ∀ q, c.agreeRequest = some q →
      (q.carrier.val = c.operand 16 1 ∧ q.fieldMask = BitVec.ofNat 6 (c.operand 17 1) ∧
        q.overrideSet = BitVec.ofNat 6 (c.operand 18 1) ∧
        q.overrideClear = BitVec.ofNat 6 (c.operand 19 1) ∧
        q.fixMask = BitVec.ofNat 6 (c.operand 20 1)) ∧
      (s.agr.freezeInForce = true →
        q.fieldMask ≠ 0 ∨ q.overrideSet ≠ 0 ∨ q.overrideClear ≠ 0 ∨ q.fixMask ≠ 0 →
        exec .agreeSet s = .next (s.complete .frozen
          [⟨64, 1, q.carrier⟩, ⟨65, 1, 2 * s.agr.freezePending.toNat + 4⟩])) ∧
      (s.agr.freezeInForce = false ∨ (q.fieldMask = 0 ∧ q.overrideSet = 0 ∧
          q.overrideClear = 0 ∧ q.fixMask = 0) →
        (∃ b, (s.agreement q.carrier).fixed.getLsbD b = true ∧
          (q.fieldMask.getLsbD b = true ∨ q.overrideSet.getLsbD b = true
            ∨ q.overrideClear.getLsbD b = true)) →
        exec .agreeSet s = .next (s.complete .fieldFixed
          [⟨64, 1, q.carrier⟩, ⟨67, 1, (s.agreement q.carrier).fixed.toNat⟩,
            ⟨78, 1, ((q.fieldMask ||| q.overrideSet ||| q.overrideClear)
              &&& (s.agreement q.carrier).fixed).toNat⟩]))) ∧
  ∀ (s : State) (c : FetchedCell) (q : AgreeRequest) (a : Agreement), s.InHand .agreeSet c →
    c.agreeRequest = some q → a = s.agreement q.carrier →
    s.agr.freezeInForce = false ∨ (q.fieldMask = 0 ∧ q.overrideSet = 0 ∧ q.overrideClear = 0 ∧
      q.fixMask = 0) →
    (∀ b, a.fixed.getLsbD b = true → q.fieldMask.getLsbD b = false
      ∧ q.overrideSet.getLsbD b = false ∧ q.overrideClear.getLsbD b = false) →
    ∃ u : Agreement,
      exec .agreeSet s = .next (State.complete .ok
        [⟨64, 1, q.carrier⟩,
          ⟨65, 1, (if (q.fieldMask.getLsbD 1 = true ∧ 600 < c.operand 24 2)
              ∨ (q.fieldMask.getLsbD 2 = true ∧ (c.operand 23 1 < 1 ∨ 60 < c.operand 23 1))
              ∨ (q.fieldMask.getLsbD 3 = true ∧ ∃ k : Tier, c.operand (26 + k.val) 1 < 64)
            then 1 else 0) + 2 * s.agr.freezePending.toNat + 4 * s.agr.freezeInForce.toNat⟩,
          ⟨66, 1, u.override.toNat⟩, ⟨67, 1, u.fixed.toNat⟩, ⟨68, 1, u.active.toNat⟩,
          ⟨69, 1, u.grid.code⟩, ⟨70, 1, u.increment⟩, ⟨72, 2, u.minSeconds⟩,
          ⟨74, 1, u.premium[0]⟩, ⟨75, 1, u.premium[1]⟩, ⟨76, 1, u.premium[2]⟩,
          ⟨77, 1, u.premium[3]⟩, ⟨80, 8, u.creditLimit⟩]
        { s with
          agr := { s.agr with agreements := s.agr.agreements.set q.carrier u },
          tau := { s.tau with
            lines := if u.grid = a.grid then s.tau.lines
              else s.tau.lines.filter (fun l =>
                !(l.tag.kind == .tariff && l.tag.index / 32 == q.carrier.val)) } }) ∧
      u.active = (if q.fieldMask.getLsbD 0 = true then c.operand 21 1 == 1 else a.active) ∧
      u.minSeconds
        = (if q.fieldMask.getLsbD 1 = true then min (c.operand 24 2) 600 else a.minSeconds) ∧
      u.increment = (if q.fieldMask.getLsbD 2 = true then max 1 (min (c.operand 23 1) 60)
        else a.increment) ∧
      (∀ k : Tier, u.premium[k] = if q.fieldMask.getLsbD 3 = true
        then max 64 (c.operand (26 + k.val) 1) else a.premium[k]) ∧
      u.creditLimit
        = (if q.fieldMask.getLsbD 4 = true then c.operand 32 6 else a.creditLimit) ∧
      u.grid.code = (if q.fieldMask.getLsbD 5 = true then c.operand 22 1 else a.grid.code) ∧
      u.override = (a.override ||| q.overrideSet) &&& ~~~q.overrideClear ∧
      u.fixed = a.fixed ||| q.fixMask

/-- FREEZE sets freeze-pending, whatever its operand bytes and whatever the flags hold, changes no
value, override bit or fixed flag, and returns both flags (R139). -/
def Obligations.FreezeSetsFreezePending : Prop :=
  ∀ (s : State) (c : FetchedCell), s.InHand .freeze c →
    exec .freeze s = .next (State.complete .ok
      [⟨65, 1, 2 + 4 * s.agr.freezeInForce.toNat⟩]
      { s with agr := { s.agr with freezePending := true } })

/-- PERIOD_CLOSE with a free snapshot and a free hold-store entry takes the close event: snapshot,
zeroed accounts, the agreement handling of R140, the PERIOD_END entry, which wakes a JW that rests
in RUNNING, and the next period number; without them the cell goes to STALLED with nothing changed,
and the stalled cell takes the same event when both are free (R9, R140, R152, R153, R154, R161,
R162). That the stalled cell's event is a command of its own is the model's reading (log entry 7).
-/
def Obligations.PeriodCloseTakesCloseEvent : Prop :=
  Account.zero = ⟨0, 0, 0, 0, 0, 0, false⟩ ∧
  (∀ (s : State) (c : FetchedCell), s.InHand .periodClose c →
    s.jw.snapshot.isSome = true ∨ 32 ≤ s.jw.hold.length →
    exec .periodClose s = .next (State.settlePoll { s with
      cc := { s.cc with state := .stalled, work := .stalledClose } })) ∧
  ∀ (s : State) (i : Instr),
    (i = .periodClose ∧ ∃ c, s.InHand .periodClose c) ∨
      (i = .stalledCellResume ∧ s.cc.state = .stalled ∧ s.cc.work = .stalledClose) →
    s.jw.snapshot = none → s.jw.hold.length < 32 →
    ∃ t, exec i s = .next t ∧
      t = { s with
        cc := t.cc, tb := { s.tb with pollCounter := t.tb.pollCounter }, jw := t.jw,
        ru := ⟨Vector.replicate 64 Account.zero, s.ru.period + 1⟩,
        agr := { s.agr with
          agreements := t.agr.agreements,
          freezePending := false,
          freezeInForce := s.agr.freezeInForce || s.agr.freezePending } } ∧
      (∀ n, t.agreement n = { s.agreement n with
        fixed := if s.agr.freezeInForce = true then (s.agreement n).fixed
          else if s.agr.freezePending = true then BitVec.allOnes 6 else 0 }) ∧
      t.jw.snapshot = some ⟨s.ru.period, s.ru.accounts⟩ ∧
      t.jw.hold = s.jw.hold ++ [.periodEnd s.ru.period] ∧
      t.jw = (State.journalAdvance { s with jw := { s.jw with
        snapshot := some ⟨s.ru.period, s.ru.accounts⟩,
        hold := s.jw.hold ++ [.periodEnd s.ru.period] } }).jw ∧
      (s.jw.state ≠ .running ∨ s.jw.flight ≠ none →
        t.jw = { s.jw with
          snapshot := some ⟨s.ru.period, s.ru.accounts⟩,
          hold := s.jw.hold ++ [.periodEnd s.ru.period] }) ∧
      t.cc = { s.cc with
        state := .working, work := .completing,
        flight := some ⟨.resultWrite .ok, ⟨s.cc.held, 64, .write (layout 64 64
          [⟨64, 4, s.ru.period.toNat⟩, ⟨68, 4, (s.ru.period + 1).toNat⟩,
            ⟨72, 1, (List.finRange 64).countP (fun n =>
              decide (¬ ((s.account n).payable = 0 ∧ (s.account n).receivable = 0 ∧
                (s.account n).outSeconds = 0 ∧ (s.account n).inSeconds = 0 ∧
                (s.account n).outCalls = 0 ∧ (s.account n).inCalls = 0 ∧
                (s.account n).sat = false)))⟩,
            ⟨73, 1,
              4 * (s.agr.freezeInForce || s.agr.freezePending).toNat⟩])⟩⟩ }

/-- Each accumulator gains its own part of a charge and saturates at its maximum, which sets SAT;
the owner and the incoming carrier may be one carrier, and no other account changes (R148, R149).
Nothing outside the accounts changes. -/
def Obligations.ChargesAccumulateAndSaturate : Prop :=
  (∀ (a : Account) (amount seconds : Nat), a.InRange →
    (a.addOut amount seconds).payable = min (a.payable + amount) (2 ^ 48 - 1) ∧
    (a.addOut amount seconds).outSeconds = min (a.outSeconds + seconds) (2 ^ 32 - 1) ∧
    (a.addOut amount seconds).outCalls = min (a.outCalls + 1) (2 ^ 32 - 1) ∧
    (a.addOut amount seconds).receivable = a.receivable ∧
    (a.addOut amount seconds).inSeconds = a.inSeconds ∧
    (a.addOut amount seconds).inCalls = a.inCalls ∧
    ((a.addOut amount seconds).sat = true ↔
      a.sat = true ∨ 2 ^ 48 - 1 < a.payable + amount ∨ 2 ^ 32 - 1 < a.outSeconds + seconds ∨
        2 ^ 32 - 1 < a.outCalls + 1) ∧
    (a.addIn amount seconds).receivable = min (a.receivable + amount) (2 ^ 48 - 1) ∧
    (a.addIn amount seconds).inSeconds = min (a.inSeconds + seconds) (2 ^ 32 - 1) ∧
    (a.addIn amount seconds).inCalls = min (a.inCalls + 1) (2 ^ 32 - 1) ∧
    (a.addIn amount seconds).payable = a.payable ∧
    (a.addIn amount seconds).outSeconds = a.outSeconds ∧
    (a.addIn amount seconds).outCalls = a.outCalls ∧
    ((a.addIn amount seconds).sat = true ↔
      a.sat = true ∨ 2 ^ 48 - 1 < a.receivable + amount ∨
        2 ^ 32 - 1 < a.inSeconds + seconds ∨ 2 ^ 32 - 1 < a.inCalls + 1)) ∧
  (∀ (s : State) (r : ChargeRecord), s.accumulate r = { s with
    ru := { s.ru with accounts := (s.accumulate r).ru.accounts } }) ∧
  ∀ (s : State) (r : ChargeRecord) (n : CarrierId),
    (s.accumulate r).account n =
      (if n = r.owner ∧ n = r.incoming then
        ((s.account n).addOut r.payable r.billedOut).addIn r.receivable r.billedIn
      else if n = r.owner then (s.account n).addOut r.payable r.billedOut
      else if n = r.incoming then (s.account n).addIn r.receivable r.billedIn
      else s.account n)

/-- The charge of a call from its frozen values and its two ticks alone: D modulo 2^32, S rounded up
to the second, each side's billed seconds on its own minimum and increment with the clamp, CLAMPED
exactly where a figure before it exceeds 1,048,575, both amounts rounded to the nearest unit with
the setup fee whole (R144, R145, R146, R147), and the call details that the CHARGE record carries
(R148, R150). -/
def Obligations.ChargeFollowsFrozenTerms : Prop :=
  ∀ (i : CtxId) (x : Context) (r : PendingRelease) (answered : Tick) (duration seconds : Nat),
    x.answerTick = some answered → 1 ≤ x.incOut → 1 ≤ x.incIn →
    duration = (r.releaseTick - answered).toNat → seconds = (duration + 99) / 100 →
    (x.charge i r).duration = duration ∧
    ((x.charge i r).clamped = true ↔
      1048575 < (if seconds ≤ x.minOut then x.minOut
        else x.minOut + (seconds - x.minOut + x.incOut - 1) / x.incOut * x.incOut) ∨
      1048575 < (if seconds ≤ x.minIn then x.minIn
        else x.minIn + (seconds - x.minIn + x.incIn - 1) / x.incIn * x.incIn)) ∧
    ((x.charge i r).handle = x.generation.toNat * 4096 + i.val ∧
      (x.charge i r).group = x.group ∧ (x.charge i r).owner = x.owner ∧
      (x.charge i r).incoming = x.incoming ∧ (x.charge i r).cause = r.cause ∧
      (x.charge i r).tier = x.tier ∧ (x.charge i r).band = x.band ∧
      (x.charge i r).distance = x.distance ∧ (x.charge i r).routeList = x.routeList ∧
      (x.charge i r).choice = x.choice ∧ (x.charge i r).crankbacks = x.crankbacks ∧
      ∀ v, x.answerTime = some v → (x.charge i r).answerTime = v.val) ∧
    (∀ (m inc b : Nat), (m = x.minOut ∧ inc = x.incOut ∧ b = (x.charge i r).billedOut) ∨
        (m = x.minIn ∧ inc = x.incIn ∧ b = (x.charge i r).billedIn) →
      b = min 1048575 (if seconds ≤ m then m else m + (seconds - m + inc - 1) / inc * inc) ∧
      b ≤ 1048575 ∧
      ((x.charge i r).clamped = false →
        (seconds ≤ m → b = m) ∧
        (m < seconds → seconds ≤ b ∧ b < seconds + inc ∧ (b - m) % inc = 0))) ∧
    (x.charge i r).payable
      = x.handoverSetup + ((x.charge i r).billedOut * x.quote + 30) / 60 ∧
    (x.charge i r).receivable
      = x.transitSetup + ((x.charge i r).billedIn * x.transitRate + 30) / 60

/-! ## The Journal Writer -/

/-- In RUNNING with no access in flight JW carries out a pending close from its header, else writes
the head CHARGE record into the slot at the slot index, else expands a PERIOD_END entry: the next
carrier to summarise, then the marker, then the close; with an empty store it waits (R162, R164,
R165, R175). That a marker already written, its prefetch faulted or abandoned, is not written again
is the model's reading (log entry 25), and that the address of a slot wraps its choice (log entry
27). The bytes of each record are those of section 13.6. -/
def Obligations.JournalTakesItsNextStep : Prop :=
  (∀ a : Account, a.summarised = true ↔
    ¬ (a.payable = 0 ∧ a.receivable = 0 ∧ a.outSeconds = 0 ∧ a.inSeconds = 0 ∧ a.outCalls = 0 ∧
      a.inCalls = 0 ∧ a.sat = false)) ∧
  (∀ s : State, s.jw.state ≠ .running ∨ s.jw.flight ≠ none → s.journalAdvance = s) ∧
  ∀ s : State, s.jw.state = .running → s.jw.flight = none →
    (s.jw.close ≠ .none →
      s.journalAdvance = { s with jw := { s.jw with
        flight := some ⟨.header, ⟨s.jw.page, 0, .write (layout 0 64
          [⟨0, 4, s.jw.sequence.toNat⟩, ⟨4, 1, s.jw.slot⟩,
            ⟨5, 1, if s.jw.close = .full then 1 else 2⟩,
            ⟨8, 4, s.jw.period.toNat⟩])⟩⟩ } }) ∧
    (s.jw.close = .none → s.jw.hold = [] → s.journalAdvance = s) ∧
    (∀ r rest, s.jw.close = .none → s.jw.hold = .charge r :: rest →
      s.journalAdvance = { s with jw := { s.jw with
        flight := some ⟨.record .charge, ⟨s.jw.page + BitVec.ofNat 64 (s.jw.slot * 64), 0,
          .write (layout 0 64
            [⟨0, 1, 1⟩, ⟨1, 1, r.clamped.toNat⟩,
              ⟨2, 1, match r.cause with
                | .normal => 0
                | .abandoned => 1
                | .farCongestion => 2
                | .failure => 3⟩,
              ⟨3, 1, r.tier.val⟩, ⟨4, 1, r.band.val⟩, ⟨5, 1, r.distance.val⟩, ⟨6, 2, r.handle⟩,
              ⟨8, 2, r.group.val⟩, ⟨10, 2, r.routeList⟩, ⟨12, 1, r.choice⟩,
              ⟨13, 1, r.crankbacks⟩, ⟨14, 1, r.incoming.val⟩, ⟨15, 1, r.owner.val⟩,
              ⟨16, 4, r.answerTime⟩, ⟨20, 4, r.duration⟩, ⟨24, 4, r.billedOut⟩,
              ⟨28, 4, r.billedIn⟩, ⟨32, 8, r.payable⟩, ⟨40, 8, r.receivable⟩])⟩⟩ } }) ∧
    ∀ (closed : Word32) (rest : List HoldEntry) (p : Snapshot), s.jw.close = .none →
      s.jw.hold = .periodEnd closed :: rest → s.jw.snapshot = some p →
      (∀ n : CarrierId, s.jw.cursor.markerWritten = false → s.jw.cursor.carrier ≤ n.val →
        p.accounts[n].summarised = true →
        (∀ m : CarrierId, s.jw.cursor.carrier ≤ m.val → m < n →
          p.accounts[m].summarised = false) →
        s.journalAdvance = { s with jw := { s.jw with
          cursor := ⟨n.val, false⟩,
          flight := some ⟨.record .summary,
            ⟨s.jw.page + BitVec.ofNat 64 (s.jw.slot * 64), 0, .write (layout 0 64
              [⟨0, 1, 2⟩, ⟨1, 1, p.accounts[n].sat.toNat⟩, ⟨2, 1, n.val⟩,
                ⟨4, 4, s.jw.period.toNat⟩, ⟨8, 8, p.accounts[n].payable⟩,
                ⟨16, 8, p.accounts[n].receivable⟩, ⟨24, 4, p.accounts[n].outSeconds⟩,
                ⟨28, 4, p.accounts[n].inSeconds⟩, ⟨32, 4, p.accounts[n].outCalls⟩,
                ⟨36, 4, p.accounts[n].inCalls⟩])⟩⟩ } }) ∧
      (s.jw.cursor.markerWritten = false →
        (∀ m : CarrierId, s.jw.cursor.carrier ≤ m.val → p.accounts[m].summarised = false) →
        s.journalAdvance = { s with jw := { s.jw with
          cursor := ⟨64, false⟩,
          flight := some ⟨.record .marker,
            ⟨s.jw.page + BitVec.ofNat 64 (s.jw.slot * 64), 0, .write (layout 0 64
              [⟨0, 1, 3⟩,
                ⟨2, 1, (List.finRange 64).countP (fun n => p.accounts[n].summarised)⟩,
                ⟨4, 4, closed.toNat⟩, ⟨8, 4, s.tb.timeOfWeek.val⟩])⟩⟩ } }) ∧
      (s.jw.cursor.markerWritten = true →
        s.journalAdvance = { s with jw := { s.jw with
          close := .periodEnd,
          flight := some ⟨.header, ⟨s.jw.page, 0, .write (layout 0 64
            [⟨0, 4, s.jw.sequence.toNat⟩, ⟨4, 1, s.jw.slot⟩, ⟨5, 1, 2⟩,
              ⟨8, 4, s.jw.period.toNat⟩])⟩⟩ } })

/-- The end of an opening read: a VALID entry opens its page and JW takes its next step there at the
kept slot index; one not VALID leads to WAITING_PAGE, with JSTALL unless the opening was a re-read,
and a nudge already seen opens again at once (R159, R166, R170). That the address of a map entry
wraps is the model's choice (log entry 27). -/
def Obligations.OpeningReadOpensOrWaits : Prop :=
  ∀ (s : State) (reread : Bool) (a : Access) (data : List Byte),
    s.jw.flight = some ⟨.opening reread, a⟩ →
    ((byteAt data 8).getLsbD 0 = true →
      exec (.openingReadEnd data) s = .next (State.journalAdvance (State.settlePoll { s with
        jw := { s.jw with
          state := .running, page := BitVec.ofNat 64 (leNat data 0 8), flight := none } }))) ∧
    ((byteAt data 8).getLsbD 0 = false → s.jw.nudgeSeen = false →
      exec (.openingReadEnd data) s = .next (State.settlePoll { s with
        jw := { s.jw with state := .waitingPage, flight := none },
        afl := if reread = true then s.afl else s.afl.raise .jstall })) ∧
    ((byteAt data 8).getLsbD 0 = false → s.jw.nudgeSeen = true →
      ∃ t, exec (.openingReadEnd data) s = .next t ∧
        t = { s with
          jw := { s.jw with
            state := .opening, nudgeSeen := false,
            flight := some ⟨.opening true,
              ⟨s.cc.anchor.mapBase + BitVec.ofNat 64 (s.jw.mapIndex * 16), 0, .read 16⟩⟩ },
          tb := { s.tb with pollCounter := t.tb.pollCounter },
          afl := if reread = true then s.afl else s.afl.raise .jstall } ∧
        (s.PollSound → t.PollSound))

/-- The end of a record's slot write is followed by the record count, the slot index; the end of the
count write takes a CHARGE record from the hold store or moves the cursor, and is followed by the
close at slot 63, the prefetch at slot 48 or the next slot; for the marker the slot index stays on
its slot (R162, R163, R165, R175; log entry 11). Then the prefetch result, and the steps of a close
after its header: the map entry's VALID is cleared, then sequence, map index, slot index and close
pending move on in one event and the engine half takes the new index, the new sequence and the
period now open (R163, R164, R175). That the addresses of map entries wrap is the model's choice
(log entry 27). -/
def Obligations.RecordAndClosingStepsFollowInOrder : Prop :=
  ((∀ (s : State) (k : RecordKind) (a : Access), s.jw.flight = some ⟨.record k, a⟩ →
    exec .recordWriteEnd s = .next { s with jw := { s.jw with
      flight := some ⟨.count k, ⟨s.jw.page, 4, .write [BitVec.ofNat 8 s.jw.slot]⟩⟩ } }) ∧
  ∀ (s : State) (k : RecordKind) (a : Access) (hold : List HoldEntry) (cursor : Cursor),
    s.jw.flight = some ⟨.count k, a⟩ →
    (k = .charge ∧ cursor = s.jw.cursor ∧ ∃ r, s.jw.hold = .charge r :: hold) ∨
      (k = .summary ∧ hold = s.jw.hold ∧
        cursor = { s.jw.cursor with carrier := s.jw.cursor.carrier + 1 }) ∨
      (k = .marker ∧ hold = s.jw.hold ∧
        cursor = { s.jw.cursor with markerWritten := true }) →
    (k ≠ .marker → s.jw.slot = 63 →
      exec .recordCountWriteEnd s = .next (State.journalAdvance { s with jw := { s.jw with
        hold := hold, cursor := cursor, flight := none, close := .full } })) ∧
    (k ≠ .marker → s.jw.slot ≠ 63 → s.jw.slot ≠ 48 →
      exec .recordCountWriteEnd s = .next (State.journalAdvance { s with jw := { s.jw with
        hold := hold, cursor := cursor, flight := none, slot := s.jw.slot + 1 } })) ∧
    (s.jw.slot = 48 →
      exec .recordCountWriteEnd s = .next { s with jw := { s.jw with
        hold := hold, cursor := cursor, slot := if k = .marker then 48 else 49,
        flight := some ⟨.prefetch,
          ⟨s.cc.anchor.mapBase + BitVec.ofNat 64
            ((s.jw.mapIndex + 1) % s.cc.anchor.mapLength * 16), 0, .read 16⟩⟩ } }) ∧
    (k = .marker → s.jw.slot ≠ 48 →
      exec .recordCountWriteEnd s = .next (State.journalAdvance { s with jw := { s.jw with
        hold := hold, cursor := cursor, flight := none } }))) ∧
  (∀ (s : State) (a : Access) (data : List Byte), s.jw.flight = some ⟨.prefetch, a⟩ →
    exec (.prefetchReadEnd data) s = .next (State.journalAdvance { s with jw := { s.jw with
      flight := none,
      prefetch := some ⟨(byteAt data 8).getLsbD 0, BitVec.ofNat 64 (leNat data 0 8)⟩ } })) ∧
  (∀ (s : State) (a : Access), s.jw.flight = some ⟨.header, a⟩ →
    exec .closingHeaderWriteEnd s = .next { s with jw := { s.jw with
      flight := some ⟨.mapClear,
        ⟨s.cc.anchor.mapBase + BitVec.ofNat 64 (s.jw.mapIndex * 16), 8, .write [0]⟩⟩ } }) ∧
  ∀ (s : State) (a : Access) (index : Nat), s.jw.flight = some ⟨.mapClear, a⟩ →
    index = (s.jw.mapIndex + 1) % s.cc.anchor.mapLength →
    exec .mapEntryClearEnd s = .next { s with jw := { s.jw with
      sequence := s.jw.sequence + 1, mapIndex := index, slot := 1, close := .none,
      prefetch := if s.cc.anchor.mapLength = 1 then none else s.jw.prefetch,
      flight := some ⟨.engineWrite (decide (s.jw.close = .periodEnd)),
        ⟨s.jw.anchor, 140, .write (layout 140 12
          [⟨140, 2, index⟩, ⟨144, 4, (s.jw.sequence + 1).toNat⟩,
            ⟨148, 4, s.ru.period.toNat⟩])⟩⟩ } }

/-- Step 4 of a close: PAGE is set, and for a PERIOD_END close the entry leaves, the snapshot
becomes free, the journal period rises, the cursor returns and PERIOD is set; the next page is
opened from a VALID prefetch result or by a read, and a fault of the write takes step 4 all the same
with JW in FAULTED (R158, R163, R164, R165). That the address of a map entry wraps is the model's
choice (log entry 27). -/
def Obligations.EngineWriteCompletesTheClose : Prop :=
  ∀ (s u : State) (periodEnd : Bool) (a : Access),
    s.jw.flight = some ⟨.engineWrite periodEnd, a⟩ →
    (periodEnd = false ∧ u = { s with afl := s.afl.raise .page }) ∨
      (periodEnd = true ∧ s.jw.atPeriodEnd = true ∧ u = { s with
        afl := (s.afl.raise .page).raise .period,
        jw := { s.jw with
          hold := s.jw.hold.tail, snapshot := none, period := s.jw.period + 1,
          cursor := ⟨0, false⟩ } }) →
    (∀ page, s.jw.prefetch = some ⟨true, page⟩ →
      exec .journalEngineWriteEnd s = .next (State.journalAdvance (State.settlePoll { u with
        jw := { u.jw with state := .running, page := page, prefetch := none, flight := none } }))) ∧
    (s.jw.prefetch = none ∨ (∃ page, s.jw.prefetch = some ⟨false, page⟩) →
      exec .journalEngineWriteEnd s = .next (State.settlePoll { u with
        jw := { u.jw with
          state := .opening, prefetch := none,
          flight := some ⟨.opening false,
            ⟨s.cc.anchor.mapBase + BitVec.ofNat 64 (s.jw.mapIndex * 16), 0, .read 16⟩⟩ } })) ∧
    ∃ t, exec .journalErrorReply s = .next t ∧
      t = { u with
        jw := { u.jw with state := .faulted, flight := none },
        tb := { s.tb with pollCounter := t.tb.pollCounter },
        afl := t.afl } ∧
      t.afl.capture = some (captureAfter .errorReply .journal a.base s.afl.capture) ∧
      t.afl.status = u.afl.status ||| 0b100000

/-! ## What every step keeps -/

/-- The reset state meets every invariant below (R1, R4, R29, R33, R57, R60, R76, R117, R118, R132,
R142, R157). -/
def Obligations.ResetStateIsSound : Prop :=
  State.reset.CallsSound ∧ State.reset.MarksSound ∧ State.reset.CacheSound ∧
  State.reset.GroupsInRange ∧ State.reset.AgreementsSound ∧ State.reset.AccountsInRange ∧
  State.reset.jw.HoldSound ∧ State.reset.jw.ShapeSound ∧ State.reset.ChainShape ∧
  State.reset.cc.AreaSound ∧ State.reset.PollSound ∧ State.reset.HeldResetCold ∧
  State.reset.MapSound ∧ State.reset.ContextsInRange ∧ State.reset.NumberDropped

/-- BUSY of every group equals the number of live contexts whose group it is, and the free FIFO
holds each FREE context once and no live one, before and after every step (R61, R118). Every step
keeps the answer fields with the ANSWERED state and the overdue marks on SEIZED contexts (R121,
R125, R127), and from a sound chain and sound agreements the ranges of every context's fields and of
what a seizure or a crankback under way will freeze into one (R96, R101, R105, R113, R117). -/
def Obligations.CallsStaySound : Prop :=
  (∀ s t : State, s.CallsSound → step s = .next t → t.CallsSound) ∧
  (∀ s t : State, s.MarksSound → step s = .next t → t.MarksSound) ∧
  ∀ s t : State, s.ChainShape → s.AgreementsSound → s.ContextsInRange → step s = .next t →
    t.ContextsInRange

/-- Every step keeps at most 32 lines with distinct tags, each of its size, and a fill in flight
only for a tag not held (R33, R40). -/
def Obligations.LineCacheStaysSound : Prop :=
  ∀ s t : State, s.CacheSound → step s = .next t → t.CacheSound

/-- Every step keeps the ranges of all groups and profiles, BUSY at most 4095, the thinning
accumulator at most 15 and a stopped timer at rest (R60, R61, R73, R74, R76, R80). -/
def Obligations.GroupsStayInRange : Prop :=
  ∀ s t : State, s.GroupsInRange → step s = .next t → t.GroupsInRange

/-- Every step keeps the ranges of all agreements, and while the freeze is in force every term of
every agreement is fixed (R132, R140); no step takes a total above its maximum, in the open period
or in a held snapshot (R142, R149). -/
def Obligations.AgreementsAndAccountsStaySound : Prop :=
  (∀ s t : State, s.AgreementsSound → step s = .next t → t.AgreementsSound) ∧
  ∀ s t : State, s.AccountsInRange → step s = .next t → t.AccountsInRange

/-- Every step keeps the hold store within 32 entries with a PERIOD_END entry exactly while the
snapshot is held, and JW's access, rest, slot and cursor as its state says (R152, R155, R157, R161,
R162, R164, R165); and the map index below the map length, with a map that has an entry wherever JW
works (R4, R157, R160). -/
def Obligations.JournalStaysSound : Prop :=
  (∀ s t : State, s.jw.HoldSound → s.jw.ShapeSound → step s = .next t →
    t.jw.HoldSound ∧ t.jw.ShapeSound) ∧
  ∀ s t : State, s.MapSound → step s = .next t → t.MapSound

/-- Every step keeps what CC and TAU have under way as the chain state says, with at most one access
and one fill (R1, R2, R9, R10, R33, R39, R100), and keeps the held cell inside the request area of a
valid anchor while position-valid is set, and a retire write under way for a next cell that is good
and is not the held cell (R4, R14, R15, R16). That no cell stays latched in IDLE, FETCHING, WAITING
and FAULTED is the model's choice (log entry 20). From a sound chain every step keeps that a SEIZE
past its first step has no operand byte latched, so that after stage 4 the part holds no record of
the number beyond the area key (R57); the first step drops them by the model's choice (log entry
29). -/
def Obligations.ChainStaysSound : Prop :=
  (∀ s t : State, s.ChainShape → step s = .next t → t.ChainShape) ∧
  (∀ s t : State, s.cc.AreaSound → step s = .next t → t.cc.AreaSound) ∧
  ∀ s t : State, s.ChainShape → s.NumberDropped → step s = .next t → t.NumberDropped

/-- Every step keeps the poll counter below the poll period while it counts and at 0 while it does
not (R29). -/
def Obligations.PollCounterStaysBelowPeriod : Prop :=
  ∀ s t : State, s.PollSound → step s = .next t → t.PollSound

/-- While a reset is held every step leaves every block at its cold values (R174). What the cold
values leave as it was, the queue, the lines and the count of messages, is the model's choice (log
entries 1, 15 and 17). -/
def Obligations.HeldResetKeepsThePartCold : Prop :=
  ∀ s t : State, s.HeldResetCold → step s = .next t → t.HeldResetCold

/-- A fault offered fills an empty capture with its address, kind and agent and LOST clear, sets
LOST alone when a capture is held, and sets FAULT in either case (R172); each cause sets its own bit
of ATTN_STATUS and nothing else of the registers (R168, R170). The attention over one command: a set
cause stays set unless the host clears it, the enables move only by their register, the first fault
captured stays as it is until it is cleared, and one message is counted exactly when the signal goes
from deasserted to asserted; the count is the model's record (R170, R171, R172; log entry 15). -/
def Obligations.AttentionAndCaptureAreKept : Prop :=
  (∀ (a : AttentionLogic) (kind : FaultKind) (agent : Agent) (address : Addr) (f : Capture),
    captureAfter kind agent address none = ⟨address, kind, agent, false⟩ ∧
    captureAfter kind agent address (some f) = { f with lost := true } ∧
    (a.offer kind agent address).capture = some (captureAfter kind agent address a.capture) ∧
    (a.offer kind agent address).status = a.status ||| 0b100000 ∧
    (a.offer kind agent address).enable = a.enable ∧
    (a.offer kind agent address).interrupts = (a.raise .fault).interrupts) ∧
  (∀ a : AttentionLogic,
    (a.raise .cell).status = a.status ||| 0b000001 ∧
    (a.raise .change).status = a.status ||| 0b000010 ∧
    (a.raise .page).status = a.status ||| 0b000100 ∧
    (a.raise .jstall).status = a.status ||| 0b001000 ∧
    (a.raise .period).status = a.status ||| 0b010000 ∧
    (a.raise .fault).status = a.status ||| 0b100000 ∧
    (∀ cause, (a.raise cause).enable = a.enable ∧ (a.raise cause).capture = a.capture ∧
      (a.raise cause).interrupts = a.interrupts
        + (if a.signal = false ∧ (a.raise cause).signal = true then 1 else 0)) ∧
    (a.signal = true ↔ ∃ b, a.status.getLsbD b = true ∧ a.enable.getLsbD b = true)) ∧
  ∀ (c : Instr) (s t : State), exec c s = .next t →
    t.afl.interrupts = s.afl.interrupts
      + (if s.afl.signal = false ∧ t.afl.signal = true then 1 else 0) ∧
    (coldResets c = false →
      ((∀ v, c ≠ .attnStatusWrite v) → s.afl.status &&& t.afl.status = s.afl.status) ∧
      ((∀ v, c ≠ .attnEnableWrite v) → t.afl.enable = s.afl.enable) ∧
      ((∀ v, c ≠ .faultInfoWrite v) → ∀ f, s.afl.capture = some f →
        ∃ lost, t.afl.capture = some { f with lost := lost } ∧ (f.lost = true → lost = true)))

/-- The generation of a context advances by 1 modulo 16 in the command that frees it and stays as it
is in every other command but a cold reset (R105, R113, R120). -/
def Obligations.GenerationAdvancesAtFreeing : Prop :=
  ∀ (c : Instr) (s t : State) (i : CtxId), exec c s = .next t → coldResets c = false →
    (t.context i).generation =
      if (s.context i).live = true ∧ (t.context i).live = false
        then (s.context i).generation + 1 else (s.context i).generation
end

