-- ==== Sys2Proof/Laws/Bytes.lean ====
section
/-! SUPPORT. What the byte and table helpers give: widths of numbers read, lengths of extents written,
entries of tables. -/

namespace Sys2Proof.Machine

/-- A number read from `width` bytes fits in them. -/
theorem leNat_lt (data : List Byte) (offset width : Nat) : leNat data offset width < 256 ^ width := by
  induction width generalizing offset with
  | zero => simp [leNat]
  | succ w ih =>
    have h := ih (offset + 1)
    have b := (byteAt data offset).isLt
    simp only [leNat, Nat.pow_succ]
    omega

@[simp] theorem leNat_one (data : List Byte) (offset : Nat) :
    leNat data offset 1 = (byteAt data offset).toNat := by simp [leNat]

@[simp] theorem readBytes_length (n : Nat) (data : List Byte) : (readBytes n data).length = n := by
  simp [readBytes]

@[simp] theorem layout_length (start n : Nat) (fields : List Field) :
    (layout start n fields).length = n := by simp [layout]

/-- An extent with no field is all zero (R176). -/
theorem layout_nil (start n : Nat) : layout start n [] = List.replicate n 0 := by
  rw [List.eq_replicate_iff]
  simp only [layout, List.length_map, List.length_range', List.mem_map, true_and]
  rintro b ⟨_, _, rfl⟩
  rfl

/-- A field of value 0 writes what no field writes, whatever stands after it. -/
theorem layoutByte_of_zero (fields : List Field) (offset : Nat) (h : ∀ f ∈ fields, f.value = 0) :
    layoutByte fields offset = 0 := by
  unfold layoutByte
  split
  · rename_i f hf
    have := h f (List.mem_of_find?_eq_some hf)
    simp [Field.byte, this]
  · rfl

/-- Fields that are all 0 write an all-zero extent. -/
theorem layout_of_zero (start n : Nat) (fields : List Field) (h : ∀ f ∈ fields, f.value = 0) :
    layout start n fields = List.replicate n 0 := by
  rw [← layout_nil start n]
  simp only [layout]
  apply List.map_congr_left
  intro o _
  rw [layoutByte_of_zero fields o h, layoutByte_of_zero [] o (by simp)]

@[simp] theorem tabulate_getElem {α : Type} (n : Nat) (f : Nat → α) (i : Nat) (h : i < n) :
    (tabulate n f)[i] = f i := by simp [tabulate]

@[simp] theorem mapEntries_getElem {α β : Type} {n : Nat} (f : α → β) (v : Vector α n) (i : Nat)
    (h : i < n) : (mapEntries f v)[i] = f v[i] := by
  simp [mapEntries]

/-- An operand is a number below `n` exactly when it is given as one. -/
theorem below_eq_some {n value : Nat} {i : Fin n} : below n value = some i ↔ value = i.val := by
  unfold below
  split
  · simp [Fin.ext_iff]
  · rename_i h; simp; intro e; exact h (e ▸ i.isLt)

/-- An operand is refused exactly when it is `n` or more. -/
theorem below_eq_none {n value : Nat} : below n value = none ↔ n ≤ value := by
  unfold below
  split <;> simp_all

/-- A value brought into a range lies in it. -/
theorem clamp_bounds {low high x : Nat} (h : low ≤ high) :
    low ≤ clamp low high x ∧ clamp low high x ≤ high := by
  unfold clamp; omega

end Sys2Proof.Machine
end

