-- ==== Sys2Proof/Laws/State.lean ====
section
/-! SUPPORT. One lemma per part of the state for each operation on records: what it leaves unchanged, and
what a read of a record gives after a write of one. -/

namespace Sys2Proof.Machine

@[simp] theorem State.raise_cc (s : State) (c : Cause) : (s.raise c).cc = s.cc := rfl
@[simp] theorem State.raise_tb (s : State) (c : Cause) : (s.raise c).tb = s.tb := rfl
@[simp] theorem State.raise_tau (s : State) (c : Cause) : (s.raise c).tau = s.tau := rfl
@[simp] theorem State.raise_groups (s : State) (c : Cause) : (s.raise c).groups = s.groups := rfl
@[simp] theorem State.raise_profiles (s : State) (c : Cause) :
    (s.raise c).profiles = s.profiles := rfl
@[simp] theorem State.raise_ct (s : State) (c : Cause) : (s.raise c).ct = s.ct := rfl
@[simp] theorem State.raise_agr (s : State) (c : Cause) : (s.raise c).agr = s.agr := rfl
@[simp] theorem State.raise_ru (s : State) (c : Cause) : (s.raise c).ru = s.ru := rfl
@[simp] theorem State.raise_jw (s : State) (c : Cause) : (s.raise c).jw = s.jw := rfl
@[simp] theorem State.raise_resets (s : State) (c : Cause) : (s.raise c).resets = s.resets := rfl
@[simp] theorem State.raise_pending (s : State) (c : Cause) : (s.raise c).pending = s.pending := rfl

@[simp] theorem State.offerFault_cc (s : State) (k : FaultKind) (a : Agent) (x : Addr) :
    (s.offerFault k a x).cc = s.cc := rfl
@[simp] theorem State.offerFault_tb (s : State) (k : FaultKind) (a : Agent) (x : Addr) :
    (s.offerFault k a x).tb = s.tb := rfl
@[simp] theorem State.offerFault_tau (s : State) (k : FaultKind) (a : Agent) (x : Addr) :
    (s.offerFault k a x).tau = s.tau := rfl
@[simp] theorem State.offerFault_groups (s : State) (k : FaultKind) (a : Agent) (x : Addr) :
    (s.offerFault k a x).groups = s.groups := rfl
@[simp] theorem State.offerFault_profiles (s : State) (k : FaultKind) (a : Agent) (x : Addr) :
    (s.offerFault k a x).profiles = s.profiles := rfl
@[simp] theorem State.offerFault_ct (s : State) (k : FaultKind) (a : Agent) (x : Addr) :
    (s.offerFault k a x).ct = s.ct := rfl
@[simp] theorem State.offerFault_agr (s : State) (k : FaultKind) (a : Agent) (x : Addr) :
    (s.offerFault k a x).agr = s.agr := rfl
@[simp] theorem State.offerFault_ru (s : State) (k : FaultKind) (a : Agent) (x : Addr) :
    (s.offerFault k a x).ru = s.ru := rfl
@[simp] theorem State.offerFault_jw (s : State) (k : FaultKind) (a : Agent) (x : Addr) :
    (s.offerFault k a x).jw = s.jw := rfl
@[simp] theorem State.offerFault_resets (s : State) (k : FaultKind) (a : Agent) (x : Addr) :
    (s.offerFault k a x).resets = s.resets := rfl
@[simp] theorem State.offerFault_pending (s : State) (k : FaultKind) (a : Agent) (x : Addr) :
    (s.offerFault k a x).pending = s.pending := rfl

@[simp] theorem State.setGroup_cc (s : State) (g : GroupId) (r : Group) :
    (s.setGroup g r).cc = s.cc := rfl
@[simp] theorem State.setGroup_tb (s : State) (g : GroupId) (r : Group) :
    (s.setGroup g r).tb = s.tb := rfl
@[simp] theorem State.setGroup_tau (s : State) (g : GroupId) (r : Group) :
    (s.setGroup g r).tau = s.tau := rfl
@[simp] theorem State.setGroup_profiles (s : State) (g : GroupId) (r : Group) :
    (s.setGroup g r).profiles = s.profiles := rfl
@[simp] theorem State.setGroup_ct (s : State) (g : GroupId) (r : Group) :
    (s.setGroup g r).ct = s.ct := rfl
@[simp] theorem State.setGroup_agr (s : State) (g : GroupId) (r : Group) :
    (s.setGroup g r).agr = s.agr := rfl
@[simp] theorem State.setGroup_ru (s : State) (g : GroupId) (r : Group) :
    (s.setGroup g r).ru = s.ru := rfl
@[simp] theorem State.setGroup_jw (s : State) (g : GroupId) (r : Group) :
    (s.setGroup g r).jw = s.jw := rfl
@[simp] theorem State.setGroup_afl (s : State) (g : GroupId) (r : Group) :
    (s.setGroup g r).afl = s.afl := rfl
@[simp] theorem State.setGroup_resets (s : State) (g : GroupId) (r : Group) :
    (s.setGroup g r).resets = s.resets := rfl
@[simp] theorem State.setGroup_pending (s : State) (g : GroupId) (r : Group) :
    (s.setGroup g r).pending = s.pending := rfl

@[simp] theorem State.setProfile_cc (s : State) (n : SetId) (l : Level) (c : Control) :
    (s.setProfile n l c).cc = s.cc := rfl
@[simp] theorem State.setProfile_tb (s : State) (n : SetId) (l : Level) (c : Control) :
    (s.setProfile n l c).tb = s.tb := rfl
@[simp] theorem State.setProfile_tau (s : State) (n : SetId) (l : Level) (c : Control) :
    (s.setProfile n l c).tau = s.tau := rfl
@[simp] theorem State.setProfile_groups (s : State) (n : SetId) (l : Level) (c : Control) :
    (s.setProfile n l c).groups = s.groups := rfl
@[simp] theorem State.setProfile_ct (s : State) (n : SetId) (l : Level) (c : Control) :
    (s.setProfile n l c).ct = s.ct := rfl
@[simp] theorem State.setProfile_agr (s : State) (n : SetId) (l : Level) (c : Control) :
    (s.setProfile n l c).agr = s.agr := rfl
@[simp] theorem State.setProfile_ru (s : State) (n : SetId) (l : Level) (c : Control) :
    (s.setProfile n l c).ru = s.ru := rfl
@[simp] theorem State.setProfile_jw (s : State) (n : SetId) (l : Level) (c : Control) :
    (s.setProfile n l c).jw = s.jw := rfl
@[simp] theorem State.setProfile_afl (s : State) (n : SetId) (l : Level) (c : Control) :
    (s.setProfile n l c).afl = s.afl := rfl
@[simp] theorem State.setProfile_resets (s : State) (n : SetId) (l : Level) (c : Control) :
    (s.setProfile n l c).resets = s.resets := rfl
@[simp] theorem State.setProfile_pending (s : State) (n : SetId) (l : Level) (c : Control) :
    (s.setProfile n l c).pending = s.pending := rfl

@[simp] theorem State.setContext_cc (s : State) (i : CtxId) (c : Context) :
    (s.setContext i c).cc = s.cc := rfl
@[simp] theorem State.setContext_tb (s : State) (i : CtxId) (c : Context) :
    (s.setContext i c).tb = s.tb := rfl
@[simp] theorem State.setContext_tau (s : State) (i : CtxId) (c : Context) :
    (s.setContext i c).tau = s.tau := rfl
@[simp] theorem State.setContext_groups (s : State) (i : CtxId) (c : Context) :
    (s.setContext i c).groups = s.groups := rfl
@[simp] theorem State.setContext_profiles (s : State) (i : CtxId) (c : Context) :
    (s.setContext i c).profiles = s.profiles := rfl
@[simp] theorem State.setContext_agr (s : State) (i : CtxId) (c : Context) :
    (s.setContext i c).agr = s.agr := rfl
@[simp] theorem State.setContext_ru (s : State) (i : CtxId) (c : Context) :
    (s.setContext i c).ru = s.ru := rfl
@[simp] theorem State.setContext_jw (s : State) (i : CtxId) (c : Context) :
    (s.setContext i c).jw = s.jw := rfl
@[simp] theorem State.setContext_afl (s : State) (i : CtxId) (c : Context) :
    (s.setContext i c).afl = s.afl := rfl
@[simp] theorem State.setContext_resets (s : State) (i : CtxId) (c : Context) :
    (s.setContext i c).resets = s.resets := rfl
@[simp] theorem State.setContext_pending (s : State) (i : CtxId) (c : Context) :
    (s.setContext i c).pending = s.pending := rfl

@[simp] theorem State.setFifo_cc (s : State) (q : List CtxId) : (s.setFifo q).cc = s.cc := rfl
@[simp] theorem State.setFifo_tb (s : State) (q : List CtxId) : (s.setFifo q).tb = s.tb := rfl
@[simp] theorem State.setFifo_tau (s : State) (q : List CtxId) : (s.setFifo q).tau = s.tau := rfl
@[simp] theorem State.setFifo_groups (s : State) (q : List CtxId) :
    (s.setFifo q).groups = s.groups := rfl
@[simp] theorem State.setFifo_profiles (s : State) (q : List CtxId) :
    (s.setFifo q).profiles = s.profiles := rfl
@[simp] theorem State.setFifo_agr (s : State) (q : List CtxId) : (s.setFifo q).agr = s.agr := rfl
@[simp] theorem State.setFifo_ru (s : State) (q : List CtxId) : (s.setFifo q).ru = s.ru := rfl
@[simp] theorem State.setFifo_jw (s : State) (q : List CtxId) : (s.setFifo q).jw = s.jw := rfl
@[simp] theorem State.setFifo_afl (s : State) (q : List CtxId) : (s.setFifo q).afl = s.afl := rfl
@[simp] theorem State.setFifo_resets (s : State) (q : List CtxId) :
    (s.setFifo q).resets = s.resets := rfl
@[simp] theorem State.setFifo_pending (s : State) (q : List CtxId) :
    (s.setFifo q).pending = s.pending := rfl

@[simp] theorem State.setAgreement_cc (s : State) (c : CarrierId) (a : Agreement) :
    (s.setAgreement c a).cc = s.cc := rfl
@[simp] theorem State.setAgreement_tb (s : State) (c : CarrierId) (a : Agreement) :
    (s.setAgreement c a).tb = s.tb := rfl
@[simp] theorem State.setAgreement_tau (s : State) (c : CarrierId) (a : Agreement) :
    (s.setAgreement c a).tau = s.tau := rfl
@[simp] theorem State.setAgreement_groups (s : State) (c : CarrierId) (a : Agreement) :
    (s.setAgreement c a).groups = s.groups := rfl
@[simp] theorem State.setAgreement_profiles (s : State) (c : CarrierId) (a : Agreement) :
    (s.setAgreement c a).profiles = s.profiles := rfl
@[simp] theorem State.setAgreement_ct (s : State) (c : CarrierId) (a : Agreement) :
    (s.setAgreement c a).ct = s.ct := rfl
@[simp] theorem State.setAgreement_ru (s : State) (c : CarrierId) (a : Agreement) :
    (s.setAgreement c a).ru = s.ru := rfl
@[simp] theorem State.setAgreement_jw (s : State) (c : CarrierId) (a : Agreement) :
    (s.setAgreement c a).jw = s.jw := rfl
@[simp] theorem State.setAgreement_afl (s : State) (c : CarrierId) (a : Agreement) :
    (s.setAgreement c a).afl = s.afl := rfl
@[simp] theorem State.setAgreement_resets (s : State) (c : CarrierId) (a : Agreement) :
    (s.setAgreement c a).resets = s.resets := rfl
@[simp] theorem State.setAgreement_pending (s : State) (c : CarrierId) (a : Agreement) :
    (s.setAgreement c a).pending = s.pending := rfl

@[simp] theorem State.setAccount_cc (s : State) (c : CarrierId) (a : Account) :
    (s.setAccount c a).cc = s.cc := rfl
@[simp] theorem State.setAccount_tb (s : State) (c : CarrierId) (a : Account) :
    (s.setAccount c a).tb = s.tb := rfl
@[simp] theorem State.setAccount_tau (s : State) (c : CarrierId) (a : Account) :
    (s.setAccount c a).tau = s.tau := rfl
@[simp] theorem State.setAccount_groups (s : State) (c : CarrierId) (a : Account) :
    (s.setAccount c a).groups = s.groups := rfl
@[simp] theorem State.setAccount_profiles (s : State) (c : CarrierId) (a : Account) :
    (s.setAccount c a).profiles = s.profiles := rfl
@[simp] theorem State.setAccount_ct (s : State) (c : CarrierId) (a : Account) :
    (s.setAccount c a).ct = s.ct := rfl
@[simp] theorem State.setAccount_agr (s : State) (c : CarrierId) (a : Account) :
    (s.setAccount c a).agr = s.agr := rfl
@[simp] theorem State.setAccount_jw (s : State) (c : CarrierId) (a : Account) :
    (s.setAccount c a).jw = s.jw := rfl
@[simp] theorem State.setAccount_afl (s : State) (c : CarrierId) (a : Account) :
    (s.setAccount c a).afl = s.afl := rfl
@[simp] theorem State.setAccount_resets (s : State) (c : CarrierId) (a : Account) :
    (s.setAccount c a).resets = s.resets := rfl
@[simp] theorem State.setAccount_pending (s : State) (c : CarrierId) (a : Account) :
    (s.setAccount c a).pending = s.pending := rfl

/-! ## A read after a write -/

@[simp] theorem State.setGroup_group (s : State) (g h : GroupId) (r : Group) :
    (s.setGroup g r).group h = if g = h then r else s.group h := by
  simp [State.group, State.setGroup, Vector.getElem_set, Fin.ext_iff]

@[simp] theorem State.setProfile_profileRow (s : State) (n m : SetId) (l : Level) (c : Control) :
    (s.setProfile n l c).profileRow m
      = if n = m then (s.profileRow n).set l c else s.profileRow m := by
  simp [State.profileRow, State.setProfile, Vector.getElem_set, Fin.ext_iff]

@[simp] theorem State.setContext_context (s : State) (i j : CtxId) (c : Context) :
    (s.setContext i c).context j = if i = j then c else s.context j := by
  simp [State.context, State.setContext, Vector.getElem_set, Fin.ext_iff]

@[simp] theorem State.setAgreement_agreement (s : State) (n m : CarrierId) (a : Agreement) :
    (s.setAgreement n a).agreement m = if n = m then a else s.agreement m := by
  simp [State.agreement, State.setAgreement, Vector.getElem_set, Fin.ext_iff]

@[simp] theorem State.setAccount_account (s : State) (n m : CarrierId) (a : Account) :
    (s.setAccount n a).account m = if n = m then a else s.account m := by
  simp [State.account, State.setAccount, Vector.getElem_set, Fin.ext_iff]

/-! ## Records seen through the part that holds them -/

theorem State.group_congr {s t : State} (h : t.groups = s.groups) (g : GroupId) :
    t.group g = s.group g := by simp [State.group, h]

theorem State.profileRow_congr {s t : State} (h : t.profiles = s.profiles) (n : SetId) :
    t.profileRow n = s.profileRow n := by simp [State.profileRow, h]

theorem State.context_congr {s t : State} (h : t.ct = s.ct) (i : CtxId) :
    t.context i = s.context i := by simp [State.context, h]

theorem State.agreement_congr {s t : State} (h : t.agr = s.agr) (c : CarrierId) :
    t.agreement c = s.agreement c := by simp [State.agreement, h]

theorem State.account_congr {s t : State} (h : t.ru = s.ru) (c : CarrierId) :
    t.account c = s.account c := by simp [State.account, h]

@[simp] theorem State.setContext_group (s : State) (i : CtxId) (c : Context) (g : GroupId) :
    (s.setContext i c).group g = s.group g := rfl
@[simp] theorem State.setFifo_group (s : State) (q : List CtxId) (g : GroupId) :
    (s.setFifo q).group g = s.group g := rfl
@[simp] theorem State.setGroup_context (s : State) (g : GroupId) (r : Group) (i : CtxId) :
    (s.setGroup g r).context i = s.context i := rfl
@[simp] theorem State.setFifo_context (s : State) (q : List CtxId) (i : CtxId) :
    (s.setFifo q).context i = s.context i := rfl
@[simp] theorem State.setFifo_fifo (s : State) (q : List CtxId) :
    (s.setFifo q).ct.freeFifo = q := rfl
@[simp] theorem State.setContext_fifo (s : State) (i : CtxId) (c : Context) :
    (s.setContext i c).ct.freeFifo = s.ct.freeFifo := rfl
@[simp] theorem State.setGroup_agreement (s : State) (g : GroupId) (r : Group) (c : CarrierId) :
    (s.setGroup g r).agreement c = s.agreement c := rfl
@[simp] theorem State.setGroup_account (s : State) (g : GroupId) (r : Group) (c : CarrierId) :
    (s.setGroup g r).account c = s.account c := rfl
@[simp] theorem State.setGroup_profileRow (s : State) (g : GroupId) (r : Group) (n : SetId) :
    (s.setGroup g r).profileRow n = s.profileRow n := rfl
@[simp] theorem State.raise_group (s : State) (c : Cause) (g : GroupId) :
    (s.raise c).group g = s.group g := rfl
@[simp] theorem State.raise_context (s : State) (c : Cause) (i : CtxId) :
    (s.raise c).context i = s.context i := rfl

end Sys2Proof.Machine
end

