-- ==== Sys2Proof/Laws/FramesChain.lean ====
section
/-! SUPPORT. What the operations on the Chain Controller and the line cache leave unchanged, part by part. -/

namespace Sys2Proof.Machine

@[simp] theorem State.settlePoll_cc (s : State) :
    (s.settlePoll).cc = s.cc := by unfold State.settlePoll; split <;> rfl
@[simp] theorem State.settlePoll_tau (s : State) :
    (s.settlePoll).tau = s.tau := by unfold State.settlePoll; split <;> rfl
@[simp] theorem State.settlePoll_groups (s : State) :
    (s.settlePoll).groups = s.groups := by unfold State.settlePoll; split <;> rfl
@[simp] theorem State.settlePoll_profiles (s : State) :
    (s.settlePoll).profiles = s.profiles := by unfold State.settlePoll; split <;> rfl
@[simp] theorem State.settlePoll_ct (s : State) :
    (s.settlePoll).ct = s.ct := by unfold State.settlePoll; split <;> rfl
@[simp] theorem State.settlePoll_agr (s : State) :
    (s.settlePoll).agr = s.agr := by unfold State.settlePoll; split <;> rfl
@[simp] theorem State.settlePoll_ru (s : State) :
    (s.settlePoll).ru = s.ru := by unfold State.settlePoll; split <;> rfl
@[simp] theorem State.settlePoll_jw (s : State) :
    (s.settlePoll).jw = s.jw := by unfold State.settlePoll; split <;> rfl
@[simp] theorem State.settlePoll_afl (s : State) :
    (s.settlePoll).afl = s.afl := by unfold State.settlePoll; split <;> rfl
@[simp] theorem State.settlePoll_resets (s : State) :
    (s.settlePoll).resets = s.resets := by unfold State.settlePoll; split <;> rfl
@[simp] theorem State.settlePoll_pending (s : State) :
    (s.settlePoll).pending = s.pending := by unfold State.settlePoll; split <;> rfl

@[simp] theorem State.enterChain_tau (s : State) (c : ChainState) :
    (s.enterChain c).tau = s.tau := by simp [State.enterChain]
@[simp] theorem State.enterChain_groups (s : State) (c : ChainState) :
    (s.enterChain c).groups = s.groups := by simp [State.enterChain]
@[simp] theorem State.enterChain_profiles (s : State) (c : ChainState) :
    (s.enterChain c).profiles = s.profiles := by simp [State.enterChain]
@[simp] theorem State.enterChain_ct (s : State) (c : ChainState) :
    (s.enterChain c).ct = s.ct := by simp [State.enterChain]
@[simp] theorem State.enterChain_agr (s : State) (c : ChainState) :
    (s.enterChain c).agr = s.agr := by simp [State.enterChain]
@[simp] theorem State.enterChain_ru (s : State) (c : ChainState) :
    (s.enterChain c).ru = s.ru := by simp [State.enterChain]
@[simp] theorem State.enterChain_jw (s : State) (c : ChainState) :
    (s.enterChain c).jw = s.jw := by simp [State.enterChain]
@[simp] theorem State.enterChain_afl (s : State) (c : ChainState) :
    (s.enterChain c).afl = s.afl := by simp [State.enterChain]
@[simp] theorem State.enterChain_resets (s : State) (c : ChainState) :
    (s.enterChain c).resets = s.resets := by simp [State.enterChain]
@[simp] theorem State.enterChain_pending (s : State) (c : ChainState) :
    (s.enterChain c).pending = s.pending := by simp [State.enterChain]

@[simp] theorem State.enterJournal_cc (s : State) (j : JournalState) :
    (s.enterJournal j).cc = s.cc := by simp [State.enterJournal]
@[simp] theorem State.enterJournal_tau (s : State) (j : JournalState) :
    (s.enterJournal j).tau = s.tau := by simp [State.enterJournal]
@[simp] theorem State.enterJournal_groups (s : State) (j : JournalState) :
    (s.enterJournal j).groups = s.groups := by simp [State.enterJournal]
@[simp] theorem State.enterJournal_profiles (s : State) (j : JournalState) :
    (s.enterJournal j).profiles = s.profiles := by simp [State.enterJournal]
@[simp] theorem State.enterJournal_ct (s : State) (j : JournalState) :
    (s.enterJournal j).ct = s.ct := by simp [State.enterJournal]
@[simp] theorem State.enterJournal_agr (s : State) (j : JournalState) :
    (s.enterJournal j).agr = s.agr := by simp [State.enterJournal]
@[simp] theorem State.enterJournal_ru (s : State) (j : JournalState) :
    (s.enterJournal j).ru = s.ru := by simp [State.enterJournal]
@[simp] theorem State.enterJournal_afl (s : State) (j : JournalState) :
    (s.enterJournal j).afl = s.afl := by simp [State.enterJournal]
@[simp] theorem State.enterJournal_resets (s : State) (j : JournalState) :
    (s.enterJournal j).resets = s.resets := by simp [State.enterJournal]
@[simp] theorem State.enterJournal_pending (s : State) (j : JournalState) :
    (s.enterJournal j).pending = s.pending := by simp [State.enterJournal]

@[simp] theorem State.issueChain_tb (s : State) (op : ChainOp) (b : Addr) (n : Nat) (x : Transfer) :
    (s.issueChain op b n x).tb = s.tb := rfl
@[simp] theorem State.issueChain_tau (s : State) (op : ChainOp) (b : Addr) (n : Nat) (x : Transfer) :
    (s.issueChain op b n x).tau = s.tau := rfl
@[simp] theorem State.issueChain_groups (s : State) (op : ChainOp) (b : Addr) (n : Nat) (x : Transfer) :
    (s.issueChain op b n x).groups = s.groups := rfl
@[simp] theorem State.issueChain_profiles (s : State) (op : ChainOp) (b : Addr) (n : Nat) (x : Transfer) :
    (s.issueChain op b n x).profiles = s.profiles := rfl
@[simp] theorem State.issueChain_ct (s : State) (op : ChainOp) (b : Addr) (n : Nat) (x : Transfer) :
    (s.issueChain op b n x).ct = s.ct := rfl
@[simp] theorem State.issueChain_agr (s : State) (op : ChainOp) (b : Addr) (n : Nat) (x : Transfer) :
    (s.issueChain op b n x).agr = s.agr := rfl
@[simp] theorem State.issueChain_ru (s : State) (op : ChainOp) (b : Addr) (n : Nat) (x : Transfer) :
    (s.issueChain op b n x).ru = s.ru := rfl
@[simp] theorem State.issueChain_jw (s : State) (op : ChainOp) (b : Addr) (n : Nat) (x : Transfer) :
    (s.issueChain op b n x).jw = s.jw := rfl
@[simp] theorem State.issueChain_afl (s : State) (op : ChainOp) (b : Addr) (n : Nat) (x : Transfer) :
    (s.issueChain op b n x).afl = s.afl := rfl
@[simp] theorem State.issueChain_resets (s : State) (op : ChainOp) (b : Addr) (n : Nat) (x : Transfer) :
    (s.issueChain op b n x).resets = s.resets := rfl
@[simp] theorem State.issueChain_pending (s : State) (op : ChainOp) (b : Addr) (n : Nat) (x : Transfer) :
    (s.issueChain op b n x).pending = s.pending := rfl

@[simp] theorem State.readAnchor_tau (s : State) :
    (s.readAnchor).tau = s.tau := by simp [State.readAnchor]
@[simp] theorem State.readAnchor_groups (s : State) :
    (s.readAnchor).groups = s.groups := by simp [State.readAnchor]
@[simp] theorem State.readAnchor_profiles (s : State) :
    (s.readAnchor).profiles = s.profiles := by simp [State.readAnchor]
@[simp] theorem State.readAnchor_ct (s : State) :
    (s.readAnchor).ct = s.ct := by simp [State.readAnchor]
@[simp] theorem State.readAnchor_agr (s : State) :
    (s.readAnchor).agr = s.agr := by simp [State.readAnchor]
@[simp] theorem State.readAnchor_ru (s : State) :
    (s.readAnchor).ru = s.ru := by simp [State.readAnchor]
@[simp] theorem State.readAnchor_jw (s : State) :
    (s.readAnchor).jw = s.jw := by simp [State.readAnchor]
@[simp] theorem State.readAnchor_afl (s : State) :
    (s.readAnchor).afl = s.afl := by simp [State.readAnchor]
@[simp] theorem State.readAnchor_resets (s : State) :
    (s.readAnchor).resets = s.resets := by simp [State.readAnchor]
@[simp] theorem State.readAnchor_pending (s : State) :
    (s.readAnchor).pending = s.pending := by simp [State.readAnchor]

@[simp] theorem State.fetchCell_tau (s : State) :
    (s.fetchCell).tau = s.tau := by simp [State.fetchCell]
@[simp] theorem State.fetchCell_groups (s : State) :
    (s.fetchCell).groups = s.groups := by simp [State.fetchCell]
@[simp] theorem State.fetchCell_profiles (s : State) :
    (s.fetchCell).profiles = s.profiles := by simp [State.fetchCell]
@[simp] theorem State.fetchCell_ct (s : State) :
    (s.fetchCell).ct = s.ct := by simp [State.fetchCell]
@[simp] theorem State.fetchCell_agr (s : State) :
    (s.fetchCell).agr = s.agr := by simp [State.fetchCell]
@[simp] theorem State.fetchCell_ru (s : State) :
    (s.fetchCell).ru = s.ru := by simp [State.fetchCell]
@[simp] theorem State.fetchCell_jw (s : State) :
    (s.fetchCell).jw = s.jw := by simp [State.fetchCell]
@[simp] theorem State.fetchCell_afl (s : State) :
    (s.fetchCell).afl = s.afl := by simp [State.fetchCell]
@[simp] theorem State.fetchCell_resets (s : State) :
    (s.fetchCell).resets = s.resets := by simp [State.fetchCell]
@[simp] theorem State.fetchCell_pending (s : State) :
    (s.fetchCell).pending = s.pending := by simp [State.fetchCell]

@[simp] theorem State.readLink_tau (s : State) :
    (s.readLink).tau = s.tau := by simp [State.readLink]
@[simp] theorem State.readLink_groups (s : State) :
    (s.readLink).groups = s.groups := by simp [State.readLink]
@[simp] theorem State.readLink_profiles (s : State) :
    (s.readLink).profiles = s.profiles := by simp [State.readLink]
@[simp] theorem State.readLink_ct (s : State) : (s.readLink).ct = s.ct := by simp [State.readLink]
@[simp] theorem State.readLink_agr (s : State) :
    (s.readLink).agr = s.agr := by simp [State.readLink]
@[simp] theorem State.readLink_ru (s : State) : (s.readLink).ru = s.ru := by simp [State.readLink]
@[simp] theorem State.readLink_jw (s : State) : (s.readLink).jw = s.jw := by simp [State.readLink]
@[simp] theorem State.readLink_afl (s : State) :
    (s.readLink).afl = s.afl := by simp [State.readLink]
@[simp] theorem State.readLink_resets (s : State) :
    (s.readLink).resets = s.resets := by simp [State.readLink]
@[simp] theorem State.readLink_pending (s : State) :
    (s.readLink).pending = s.pending := by simp [State.readLink]

@[simp] theorem State.writeRetireMark_tau (s : State) (op : ChainOp) (m : Addr) :
    (s.writeRetireMark op m).tau = s.tau := by simp [State.writeRetireMark]
@[simp] theorem State.writeRetireMark_groups (s : State) (op : ChainOp) (m : Addr) :
    (s.writeRetireMark op m).groups = s.groups := by simp [State.writeRetireMark]
@[simp] theorem State.writeRetireMark_profiles (s : State) (op : ChainOp) (m : Addr) :
    (s.writeRetireMark op m).profiles = s.profiles := by simp [State.writeRetireMark]
@[simp] theorem State.writeRetireMark_ct (s : State) (op : ChainOp) (m : Addr) :
    (s.writeRetireMark op m).ct = s.ct := by simp [State.writeRetireMark]
@[simp] theorem State.writeRetireMark_agr (s : State) (op : ChainOp) (m : Addr) :
    (s.writeRetireMark op m).agr = s.agr := by simp [State.writeRetireMark]
@[simp] theorem State.writeRetireMark_ru (s : State) (op : ChainOp) (m : Addr) :
    (s.writeRetireMark op m).ru = s.ru := by simp [State.writeRetireMark]
@[simp] theorem State.writeRetireMark_jw (s : State) (op : ChainOp) (m : Addr) :
    (s.writeRetireMark op m).jw = s.jw := by simp [State.writeRetireMark]
@[simp] theorem State.writeRetireMark_afl (s : State) (op : ChainOp) (m : Addr) :
    (s.writeRetireMark op m).afl = s.afl := by simp [State.writeRetireMark]
@[simp] theorem State.writeRetireMark_resets (s : State) (op : ChainOp) (m : Addr) :
    (s.writeRetireMark op m).resets = s.resets := by simp [State.writeRetireMark]
@[simp] theorem State.writeRetireMark_pending (s : State) (op : ChainOp) (m : Addr) :
    (s.writeRetireMark op m).pending = s.pending := by simp [State.writeRetireMark]

@[simp] theorem State.complete_tau (s : State) (k : ResultCode) (fs : List Field) :
    (s.complete k fs).tau = s.tau := by simp [State.complete]
@[simp] theorem State.complete_groups (s : State) (k : ResultCode) (fs : List Field) :
    (s.complete k fs).groups = s.groups := by simp [State.complete]
@[simp] theorem State.complete_profiles (s : State) (k : ResultCode) (fs : List Field) :
    (s.complete k fs).profiles = s.profiles := by simp [State.complete]
@[simp] theorem State.complete_ct (s : State) (k : ResultCode) (fs : List Field) :
    (s.complete k fs).ct = s.ct := by simp [State.complete]
@[simp] theorem State.complete_agr (s : State) (k : ResultCode) (fs : List Field) :
    (s.complete k fs).agr = s.agr := by simp [State.complete]
@[simp] theorem State.complete_ru (s : State) (k : ResultCode) (fs : List Field) :
    (s.complete k fs).ru = s.ru := by simp [State.complete]
@[simp] theorem State.complete_jw (s : State) (k : ResultCode) (fs : List Field) :
    (s.complete k fs).jw = s.jw := by simp [State.complete]
@[simp] theorem State.complete_afl (s : State) (k : ResultCode) (fs : List Field) :
    (s.complete k fs).afl = s.afl := by simp [State.complete]
@[simp] theorem State.complete_resets (s : State) (k : ResultCode) (fs : List Field) :
    (s.complete k fs).resets = s.resets := by simp [State.complete]
@[simp] theorem State.complete_pending (s : State) (k : ResultCode) (fs : List Field) :
    (s.complete k fs).pending = s.pending := by simp [State.complete]

@[simp] theorem State.writeStatus_tb (s : State) (k : ResultCode) :
    (s.writeStatus k).tb = s.tb := rfl
@[simp] theorem State.writeStatus_tau (s : State) (k : ResultCode) :
    (s.writeStatus k).tau = s.tau := rfl
@[simp] theorem State.writeStatus_groups (s : State) (k : ResultCode) :
    (s.writeStatus k).groups = s.groups := rfl
@[simp] theorem State.writeStatus_profiles (s : State) (k : ResultCode) :
    (s.writeStatus k).profiles = s.profiles := rfl
@[simp] theorem State.writeStatus_ct (s : State) (k : ResultCode) :
    (s.writeStatus k).ct = s.ct := rfl
@[simp] theorem State.writeStatus_agr (s : State) (k : ResultCode) :
    (s.writeStatus k).agr = s.agr := rfl
@[simp] theorem State.writeStatus_ru (s : State) (k : ResultCode) :
    (s.writeStatus k).ru = s.ru := rfl
@[simp] theorem State.writeStatus_jw (s : State) (k : ResultCode) :
    (s.writeStatus k).jw = s.jw := rfl
@[simp] theorem State.writeStatus_afl (s : State) (k : ResultCode) :
    (s.writeStatus k).afl = s.afl := rfl
@[simp] theorem State.writeStatus_resets (s : State) (k : ResultCode) :
    (s.writeStatus k).resets = s.resets := rfl
@[simp] theorem State.writeStatus_pending (s : State) (k : ResultCode) :
    (s.writeStatus k).pending = s.pending := rfl

@[simp] theorem State.dropCell_tb (s : State) : (s.dropCell).tb = s.tb := rfl
@[simp] theorem State.dropCell_tau (s : State) : (s.dropCell).tau = s.tau := rfl
@[simp] theorem State.dropCell_groups (s : State) : (s.dropCell).groups = s.groups := rfl
@[simp] theorem State.dropCell_profiles (s : State) : (s.dropCell).profiles = s.profiles := rfl
@[simp] theorem State.dropCell_ct (s : State) : (s.dropCell).ct = s.ct := rfl
@[simp] theorem State.dropCell_agr (s : State) : (s.dropCell).agr = s.agr := rfl
@[simp] theorem State.dropCell_ru (s : State) : (s.dropCell).ru = s.ru := rfl
@[simp] theorem State.dropCell_jw (s : State) : (s.dropCell).jw = s.jw := rfl
@[simp] theorem State.dropCell_afl (s : State) : (s.dropCell).afl = s.afl := rfl
@[simp] theorem State.dropCell_resets (s : State) : (s.dropCell).resets = s.resets := rfl
@[simp] theorem State.dropCell_pending (s : State) : (s.dropCell).pending = s.pending := rfl

@[simp] theorem State.chainFault_tau (s : State) (k : FaultKind) (x : Addr) :
    (s.chainFault k x).tau = s.tau := by simp [State.chainFault]
@[simp] theorem State.chainFault_groups (s : State) (k : FaultKind) (x : Addr) :
    (s.chainFault k x).groups = s.groups := by simp [State.chainFault]
@[simp] theorem State.chainFault_profiles (s : State) (k : FaultKind) (x : Addr) :
    (s.chainFault k x).profiles = s.profiles := by simp [State.chainFault]
@[simp] theorem State.chainFault_ct (s : State) (k : FaultKind) (x : Addr) :
    (s.chainFault k x).ct = s.ct := by simp [State.chainFault]
@[simp] theorem State.chainFault_agr (s : State) (k : FaultKind) (x : Addr) :
    (s.chainFault k x).agr = s.agr := by simp [State.chainFault]
@[simp] theorem State.chainFault_ru (s : State) (k : FaultKind) (x : Addr) :
    (s.chainFault k x).ru = s.ru := by simp [State.chainFault]
@[simp] theorem State.chainFault_jw (s : State) (k : FaultKind) (x : Addr) :
    (s.chainFault k x).jw = s.jw := by simp [State.chainFault]
@[simp] theorem State.chainFault_resets (s : State) (k : FaultKind) (x : Addr) :
    (s.chainFault k x).resets = s.resets := by simp [State.chainFault]
@[simp] theorem State.chainFault_pending (s : State) (k : FaultKind) (x : Addr) :
    (s.chainFault k x).pending = s.pending := by simp [State.chainFault]

@[simp] theorem State.chainIdle_tau (s : State) :
    (s.chainIdle).tau = s.tau := by simp [State.chainIdle]
@[simp] theorem State.chainIdle_groups (s : State) :
    (s.chainIdle).groups = s.groups := by simp [State.chainIdle]
@[simp] theorem State.chainIdle_profiles (s : State) :
    (s.chainIdle).profiles = s.profiles := by simp [State.chainIdle]
@[simp] theorem State.chainIdle_ct (s : State) :
    (s.chainIdle).ct = s.ct := by simp [State.chainIdle]
@[simp] theorem State.chainIdle_agr (s : State) :
    (s.chainIdle).agr = s.agr := by simp [State.chainIdle]
@[simp] theorem State.chainIdle_ru (s : State) :
    (s.chainIdle).ru = s.ru := by simp [State.chainIdle]
@[simp] theorem State.chainIdle_jw (s : State) :
    (s.chainIdle).jw = s.jw := by simp [State.chainIdle]
@[simp] theorem State.chainIdle_afl (s : State) :
    (s.chainIdle).afl = s.afl := by simp [State.chainIdle]
@[simp] theorem State.chainIdle_resets (s : State) :
    (s.chainIdle).resets = s.resets := by simp [State.chainIdle]
@[simp] theorem State.chainIdle_pending (s : State) :
    (s.chainIdle).pending = s.pending := by simp [State.chainIdle]

@[simp] theorem State.endFlight_tb (s : State) : (s.endFlight).tb = s.tb := rfl
@[simp] theorem State.endFlight_tau (s : State) : (s.endFlight).tau = s.tau := rfl
@[simp] theorem State.endFlight_groups (s : State) : (s.endFlight).groups = s.groups := rfl
@[simp] theorem State.endFlight_profiles (s : State) : (s.endFlight).profiles = s.profiles := rfl
@[simp] theorem State.endFlight_ct (s : State) : (s.endFlight).ct = s.ct := rfl
@[simp] theorem State.endFlight_agr (s : State) : (s.endFlight).agr = s.agr := rfl
@[simp] theorem State.endFlight_ru (s : State) : (s.endFlight).ru = s.ru := rfl
@[simp] theorem State.endFlight_jw (s : State) : (s.endFlight).jw = s.jw := rfl
@[simp] theorem State.endFlight_afl (s : State) : (s.endFlight).afl = s.afl := rfl
@[simp] theorem State.endFlight_resets (s : State) : (s.endFlight).resets = s.resets := rfl
@[simp] theorem State.endFlight_pending (s : State) : (s.endFlight).pending = s.pending := rfl

@[simp] theorem State.dispatchCell_tau (s : State) (c : FetchedCell) :
    (s.dispatchCell c).tau = s.tau := by unfold State.dispatchCell; split <;> simp
@[simp] theorem State.dispatchCell_groups (s : State) (c : FetchedCell) :
    (s.dispatchCell c).groups = s.groups := by unfold State.dispatchCell; split <;> simp
@[simp] theorem State.dispatchCell_profiles (s : State) (c : FetchedCell) :
    (s.dispatchCell c).profiles = s.profiles := by unfold State.dispatchCell; split <;> simp
@[simp] theorem State.dispatchCell_ct (s : State) (c : FetchedCell) :
    (s.dispatchCell c).ct = s.ct := by unfold State.dispatchCell; split <;> simp
@[simp] theorem State.dispatchCell_agr (s : State) (c : FetchedCell) :
    (s.dispatchCell c).agr = s.agr := by unfold State.dispatchCell; split <;> simp
@[simp] theorem State.dispatchCell_ru (s : State) (c : FetchedCell) :
    (s.dispatchCell c).ru = s.ru := by unfold State.dispatchCell; split <;> simp
@[simp] theorem State.dispatchCell_jw (s : State) (c : FetchedCell) :
    (s.dispatchCell c).jw = s.jw := by unfold State.dispatchCell; split <;> simp
@[simp] theorem State.dispatchCell_afl (s : State) (c : FetchedCell) :
    (s.dispatchCell c).afl = s.afl := by unfold State.dispatchCell; split <;> simp
@[simp] theorem State.dispatchCell_resets (s : State) (c : FetchedCell) :
    (s.dispatchCell c).resets = s.resets := by unfold State.dispatchCell; split <;> simp
@[simp] theorem State.dispatchCell_pending (s : State) (c : FetchedCell) :
    (s.dispatchCell c).pending = s.pending := by unfold State.dispatchCell; split <;> simp

@[simp] theorem State.retire_tau (s : State) (n : Addr) :
    (s.retire n).tau = s.tau := by simp [State.retire]
@[simp] theorem State.retire_groups (s : State) (n : Addr) :
    (s.retire n).groups = s.groups := by simp [State.retire]
@[simp] theorem State.retire_profiles (s : State) (n : Addr) :
    (s.retire n).profiles = s.profiles := by simp [State.retire]
@[simp] theorem State.retire_ct (s : State) (n : Addr) :
    (s.retire n).ct = s.ct := by simp [State.retire]
@[simp] theorem State.retire_agr (s : State) (n : Addr) :
    (s.retire n).agr = s.agr := by simp [State.retire]
@[simp] theorem State.retire_ru (s : State) (n : Addr) :
    (s.retire n).ru = s.ru := by simp [State.retire]
@[simp] theorem State.retire_jw (s : State) (n : Addr) :
    (s.retire n).jw = s.jw := by simp [State.retire]
@[simp] theorem State.retire_afl (s : State) (n : Addr) :
    (s.retire n).afl = s.afl := by simp [State.retire]
@[simp] theorem State.retire_resets (s : State) (n : Addr) :
    (s.retire n).resets = s.resets := by simp [State.retire]
@[simp] theorem State.retire_pending (s : State) (n : Addr) :
    (s.retire n).pending = s.pending := by simp [State.retire]

@[simp] theorem State.stop_tau (s : State) :
    (s.stop).tau = s.tau := by unfold State.stop; split <;> simp
@[simp] theorem State.stop_groups (s : State) :
    (s.stop).groups = s.groups := by unfold State.stop; split <;> simp
@[simp] theorem State.stop_profiles (s : State) :
    (s.stop).profiles = s.profiles := by unfold State.stop; split <;> simp
@[simp] theorem State.stop_ct (s : State) :
    (s.stop).ct = s.ct := by unfold State.stop; split <;> simp
@[simp] theorem State.stop_agr (s : State) :
    (s.stop).agr = s.agr := by unfold State.stop; split <;> simp
@[simp] theorem State.stop_ru (s : State) :
    (s.stop).ru = s.ru := by unfold State.stop; split <;> simp
@[simp] theorem State.stop_jw (s : State) :
    (s.stop).jw = s.jw := by unfold State.stop; split <;> simp
@[simp] theorem State.stop_afl (s : State) :
    (s.stop).afl = s.afl := by unfold State.stop; split <;> simp
@[simp] theorem State.stop_resets (s : State) :
    (s.stop).resets = s.resets := by unfold State.stop; split <;> simp
@[simp] theorem State.stop_pending (s : State) :
    (s.stop).pending = s.pending := by unfold State.stop; split <;> simp

@[simp] theorem State.nudgeChain_tau (s : State) :
    (s.nudgeChain).tau = s.tau := by unfold State.nudgeChain; split <;> simp
@[simp] theorem State.nudgeChain_groups (s : State) :
    (s.nudgeChain).groups = s.groups := by unfold State.nudgeChain; split <;> simp
@[simp] theorem State.nudgeChain_profiles (s : State) :
    (s.nudgeChain).profiles = s.profiles := by unfold State.nudgeChain; split <;> simp
@[simp] theorem State.nudgeChain_ct (s : State) :
    (s.nudgeChain).ct = s.ct := by unfold State.nudgeChain; split <;> simp
@[simp] theorem State.nudgeChain_agr (s : State) :
    (s.nudgeChain).agr = s.agr := by unfold State.nudgeChain; split <;> simp
@[simp] theorem State.nudgeChain_ru (s : State) :
    (s.nudgeChain).ru = s.ru := by unfold State.nudgeChain; split <;> simp
@[simp] theorem State.nudgeChain_jw (s : State) :
    (s.nudgeChain).jw = s.jw := by unfold State.nudgeChain; split <;> simp
@[simp] theorem State.nudgeChain_afl (s : State) :
    (s.nudgeChain).afl = s.afl := by unfold State.nudgeChain; split <;> simp
@[simp] theorem State.nudgeChain_resets (s : State) :
    (s.nudgeChain).resets = s.resets := by unfold State.nudgeChain; split <;> simp
@[simp] theorem State.nudgeChain_pending (s : State) :
    (s.nudgeChain).pending = s.pending := by unfold State.nudgeChain; split <;> simp

@[simp] theorem State.writeAnchor_tb (s : State) (h : AnchorHalf) (v : Word32) :
    (s.writeAnchor h v).tb = s.tb := by unfold State.writeAnchor; repeat (first | rfl | simp | split)
@[simp] theorem State.writeAnchor_tau (s : State) (h : AnchorHalf) (v : Word32) :
    (s.writeAnchor h v).tau = s.tau := by unfold State.writeAnchor; repeat (first | rfl | simp | split)
@[simp] theorem State.writeAnchor_groups (s : State) (h : AnchorHalf) (v : Word32) :
    (s.writeAnchor h v).groups = s.groups := by unfold State.writeAnchor; repeat (first | rfl | simp | split)
@[simp] theorem State.writeAnchor_profiles (s : State) (h : AnchorHalf) (v : Word32) :
    (s.writeAnchor h v).profiles = s.profiles := by unfold State.writeAnchor; repeat (first | rfl | simp | split)
@[simp] theorem State.writeAnchor_ct (s : State) (h : AnchorHalf) (v : Word32) :
    (s.writeAnchor h v).ct = s.ct := by unfold State.writeAnchor; repeat (first | rfl | simp | split)
@[simp] theorem State.writeAnchor_agr (s : State) (h : AnchorHalf) (v : Word32) :
    (s.writeAnchor h v).agr = s.agr := by unfold State.writeAnchor; repeat (first | rfl | simp | split)
@[simp] theorem State.writeAnchor_ru (s : State) (h : AnchorHalf) (v : Word32) :
    (s.writeAnchor h v).ru = s.ru := by unfold State.writeAnchor; repeat (first | rfl | simp | split)
@[simp] theorem State.writeAnchor_jw (s : State) (h : AnchorHalf) (v : Word32) :
    (s.writeAnchor h v).jw = s.jw := by unfold State.writeAnchor; repeat (first | rfl | simp | split)
@[simp] theorem State.writeAnchor_afl (s : State) (h : AnchorHalf) (v : Word32) :
    (s.writeAnchor h v).afl = s.afl := by unfold State.writeAnchor; repeat (first | rfl | simp | split)
@[simp] theorem State.writeAnchor_resets (s : State) (h : AnchorHalf) (v : Word32) :
    (s.writeAnchor h v).resets = s.resets := by unfold State.writeAnchor; repeat (first | rfl | simp | split)
@[simp] theorem State.writeAnchor_pending (s : State) (h : AnchorHalf) (v : Word32) :
    (s.writeAnchor h v).pending = s.pending := by unfold State.writeAnchor; repeat (first | rfl | simp | split)

@[simp] theorem State.dropLines_cc (s : State) (f : Tag → Bool) : (s.dropLines f).cc = s.cc := rfl
@[simp] theorem State.dropLines_tb (s : State) (f : Tag → Bool) : (s.dropLines f).tb = s.tb := rfl
@[simp] theorem State.dropLines_groups (s : State) (f : Tag → Bool) :
    (s.dropLines f).groups = s.groups := rfl
@[simp] theorem State.dropLines_profiles (s : State) (f : Tag → Bool) :
    (s.dropLines f).profiles = s.profiles := rfl
@[simp] theorem State.dropLines_ct (s : State) (f : Tag → Bool) : (s.dropLines f).ct = s.ct := rfl
@[simp] theorem State.dropLines_agr (s : State) (f : Tag → Bool) :
    (s.dropLines f).agr = s.agr := rfl
@[simp] theorem State.dropLines_ru (s : State) (f : Tag → Bool) : (s.dropLines f).ru = s.ru := rfl
@[simp] theorem State.dropLines_jw (s : State) (f : Tag → Bool) : (s.dropLines f).jw = s.jw := rfl
@[simp] theorem State.dropLines_afl (s : State) (f : Tag → Bool) :
    (s.dropLines f).afl = s.afl := rfl
@[simp] theorem State.dropLines_resets (s : State) (f : Tag → Bool) :
    (s.dropLines f).resets = s.resets := rfl
@[simp] theorem State.dropLines_pending (s : State) (f : Tag → Bool) :
    (s.dropLines f).pending = s.pending := rfl

@[simp] theorem State.flush_cc (s : State) : (s.flush).cc = s.cc := rfl
@[simp] theorem State.flush_tb (s : State) : (s.flush).tb = s.tb := rfl
@[simp] theorem State.flush_groups (s : State) : (s.flush).groups = s.groups := rfl
@[simp] theorem State.flush_profiles (s : State) : (s.flush).profiles = s.profiles := rfl
@[simp] theorem State.flush_ct (s : State) : (s.flush).ct = s.ct := rfl
@[simp] theorem State.flush_agr (s : State) : (s.flush).agr = s.agr := rfl
@[simp] theorem State.flush_ru (s : State) : (s.flush).ru = s.ru := rfl
@[simp] theorem State.flush_jw (s : State) : (s.flush).jw = s.jw := rfl
@[simp] theorem State.flush_afl (s : State) : (s.flush).afl = s.afl := rfl
@[simp] theorem State.flush_resets (s : State) : (s.flush).resets = s.resets := rfl
@[simp] theorem State.flush_pending (s : State) : (s.flush).pending = s.pending := rfl

@[simp] theorem State.abandonFill_cc (s : State) : (s.abandonFill).cc = s.cc := rfl
@[simp] theorem State.abandonFill_tb (s : State) : (s.abandonFill).tb = s.tb := rfl
@[simp] theorem State.abandonFill_groups (s : State) : (s.abandonFill).groups = s.groups := rfl
@[simp] theorem State.abandonFill_profiles (s : State) :
    (s.abandonFill).profiles = s.profiles := rfl
@[simp] theorem State.abandonFill_ct (s : State) : (s.abandonFill).ct = s.ct := rfl
@[simp] theorem State.abandonFill_agr (s : State) : (s.abandonFill).agr = s.agr := rfl
@[simp] theorem State.abandonFill_ru (s : State) : (s.abandonFill).ru = s.ru := rfl
@[simp] theorem State.abandonFill_jw (s : State) : (s.abandonFill).jw = s.jw := rfl
@[simp] theorem State.abandonFill_afl (s : State) : (s.abandonFill).afl = s.afl := rfl
@[simp] theorem State.abandonFill_resets (s : State) : (s.abandonFill).resets = s.resets := rfl
@[simp] theorem State.abandonFill_pending (s : State) : (s.abandonFill).pending = s.pending := rfl

@[simp] theorem State.startFill_tb (s : State) (x : Tag) (r : Requester) :
    (s.startFill x r).tb = s.tb := rfl
@[simp] theorem State.startFill_groups (s : State) (x : Tag) (r : Requester) :
    (s.startFill x r).groups = s.groups := rfl
@[simp] theorem State.startFill_profiles (s : State) (x : Tag) (r : Requester) :
    (s.startFill x r).profiles = s.profiles := rfl
@[simp] theorem State.startFill_ct (s : State) (x : Tag) (r : Requester) :
    (s.startFill x r).ct = s.ct := rfl
@[simp] theorem State.startFill_agr (s : State) (x : Tag) (r : Requester) :
    (s.startFill x r).agr = s.agr := rfl
@[simp] theorem State.startFill_ru (s : State) (x : Tag) (r : Requester) :
    (s.startFill x r).ru = s.ru := rfl
@[simp] theorem State.startFill_jw (s : State) (x : Tag) (r : Requester) :
    (s.startFill x r).jw = s.jw := rfl
@[simp] theorem State.startFill_afl (s : State) (x : Tag) (r : Requester) :
    (s.startFill x r).afl = s.afl := rfl
@[simp] theorem State.startFill_resets (s : State) (x : Tag) (r : Requester) :
    (s.startFill x r).resets = s.resets := rfl
@[simp] theorem State.startFill_pending (s : State) (x : Tag) (r : Requester) :
    (s.startFill x r).pending = s.pending := rfl

@[simp] theorem State.dropOperands_cell (s : State) : s.dropOperands.cc.cell
    = s.cc.cell.map (fun c => { c with operands := [] }) := rfl
@[simp] theorem State.dropOperands_state (s : State) :
    s.dropOperands.cc.state = s.cc.state := rfl
@[simp] theorem State.dropOperands_held (s : State) :
    s.dropOperands.cc.held = s.cc.held := rfl
@[simp] theorem State.dropOperands_positionValid (s : State) :
    s.dropOperands.cc.positionValid = s.cc.positionValid := rfl
@[simp] theorem State.dropOperands_stopPending (s : State) :
    s.dropOperands.cc.stopPending = s.cc.stopPending := rfl
@[simp] theorem State.dropOperands_nudgeSeen (s : State) :
    s.dropOperands.cc.nudgeSeen = s.cc.nudgeSeen := rfl
@[simp] theorem State.dropOperands_anchor (s : State) :
    s.dropOperands.cc.anchor = s.cc.anchor := rfl
@[simp] theorem State.dropOperands_retiredCount (s : State) :
    s.dropOperands.cc.retiredCount = s.cc.retiredCount := rfl
@[simp] theorem State.dropOperands_anchorLo (s : State) :
    s.dropOperands.cc.anchorLo = s.cc.anchorLo := rfl
@[simp] theorem State.dropOperands_anchorHi (s : State) :
    s.dropOperands.cc.anchorHi = s.cc.anchorHi := rfl
@[simp] theorem State.dropOperands_flight (s : State) :
    s.dropOperands.cc.flight = s.cc.flight := rfl
@[simp] theorem State.dropOperands_work (s : State) :
    s.dropOperands.cc.work = s.cc.work := rfl
@[simp] theorem State.dropOperands_abandoned (s : State) :
    s.dropOperands.cc.abandoned = s.cc.abandoned := rfl
@[simp] theorem State.dropOperands_tb (s : State) :
    s.dropOperands.tb = s.tb := rfl
@[simp] theorem State.dropOperands_tau (s : State) :
    s.dropOperands.tau = s.tau := rfl
@[simp] theorem State.dropOperands_groups (s : State) :
    s.dropOperands.groups = s.groups := rfl
@[simp] theorem State.dropOperands_profiles (s : State) :
    s.dropOperands.profiles = s.profiles := rfl
@[simp] theorem State.dropOperands_ct (s : State) :
    s.dropOperands.ct = s.ct := rfl
@[simp] theorem State.dropOperands_agr (s : State) :
    s.dropOperands.agr = s.agr := rfl
@[simp] theorem State.dropOperands_ru (s : State) :
    s.dropOperands.ru = s.ru := rfl
@[simp] theorem State.dropOperands_jw (s : State) :
    s.dropOperands.jw = s.jw := rfl
@[simp] theorem State.dropOperands_afl (s : State) :
    s.dropOperands.afl = s.afl := rfl
@[simp] theorem State.dropOperands_resets (s : State) :
    s.dropOperands.resets = s.resets := rfl
@[simp] theorem State.dropOperands_pending (s : State) :
    s.dropOperands.pending = s.pending := rfl

end Sys2Proof.Machine
end

