-- ==== Sys2Proof/Laws/FramesJournal.lean ====
section
/-! SUPPORT. What the operations on the Journal Writer and the commands that start and stop it leave
unchanged, part by part. -/

namespace Sys2Proof.Machine

@[simp] theorem State.issueJournal_cc (s : State) (op : JournalOp) (b : Addr) (n : Nat) (x : Transfer) :
    (s.issueJournal op b n x).cc = s.cc := rfl
@[simp] theorem State.issueJournal_tb (s : State) (op : JournalOp) (b : Addr) (n : Nat) (x : Transfer) :
    (s.issueJournal op b n x).tb = s.tb := rfl
@[simp] theorem State.issueJournal_tau (s : State) (op : JournalOp) (b : Addr) (n : Nat) (x : Transfer) :
    (s.issueJournal op b n x).tau = s.tau := rfl
@[simp] theorem State.issueJournal_groups (s : State) (op : JournalOp) (b : Addr) (n : Nat) (x : Transfer) :
    (s.issueJournal op b n x).groups = s.groups := rfl
@[simp] theorem State.issueJournal_profiles (s : State) (op : JournalOp) (b : Addr) (n : Nat) (x : Transfer) :
    (s.issueJournal op b n x).profiles = s.profiles := rfl
@[simp] theorem State.issueJournal_ct (s : State) (op : JournalOp) (b : Addr) (n : Nat) (x : Transfer) :
    (s.issueJournal op b n x).ct = s.ct := rfl
@[simp] theorem State.issueJournal_agr (s : State) (op : JournalOp) (b : Addr) (n : Nat) (x : Transfer) :
    (s.issueJournal op b n x).agr = s.agr := rfl
@[simp] theorem State.issueJournal_ru (s : State) (op : JournalOp) (b : Addr) (n : Nat) (x : Transfer) :
    (s.issueJournal op b n x).ru = s.ru := rfl
@[simp] theorem State.issueJournal_afl (s : State) (op : JournalOp) (b : Addr) (n : Nat) (x : Transfer) :
    (s.issueJournal op b n x).afl = s.afl := rfl
@[simp] theorem State.issueJournal_resets (s : State) (op : JournalOp) (b : Addr) (n : Nat) (x : Transfer) :
    (s.issueJournal op b n x).resets = s.resets := rfl
@[simp] theorem State.issueJournal_pending (s : State) (op : JournalOp) (b : Addr) (n : Nat) (x : Transfer) :
    (s.issueJournal op b n x).pending = s.pending := rfl

@[simp] theorem State.openPage_cc (s : State) (b : Bool) :
    (s.openPage b).cc = s.cc := by simp [State.openPage]
@[simp] theorem State.openPage_tau (s : State) (b : Bool) :
    (s.openPage b).tau = s.tau := by simp [State.openPage]
@[simp] theorem State.openPage_groups (s : State) (b : Bool) :
    (s.openPage b).groups = s.groups := by simp [State.openPage]
@[simp] theorem State.openPage_profiles (s : State) (b : Bool) :
    (s.openPage b).profiles = s.profiles := by simp [State.openPage]
@[simp] theorem State.openPage_ct (s : State) (b : Bool) :
    (s.openPage b).ct = s.ct := by simp [State.openPage]
@[simp] theorem State.openPage_agr (s : State) (b : Bool) :
    (s.openPage b).agr = s.agr := by simp [State.openPage]
@[simp] theorem State.openPage_ru (s : State) (b : Bool) :
    (s.openPage b).ru = s.ru := by simp [State.openPage]
@[simp] theorem State.openPage_afl (s : State) (b : Bool) :
    (s.openPage b).afl = s.afl := by simp [State.openPage]
@[simp] theorem State.openPage_resets (s : State) (b : Bool) :
    (s.openPage b).resets = s.resets := by simp [State.openPage]
@[simp] theorem State.openPage_pending (s : State) (b : Bool) :
    (s.openPage b).pending = s.pending := by simp [State.openPage]

@[simp] theorem State.writeRecord_cc (s : State) (k : RecordKind) (fs : List Field) :
    (s.writeRecord k fs).cc = s.cc := rfl
@[simp] theorem State.writeRecord_tb (s : State) (k : RecordKind) (fs : List Field) :
    (s.writeRecord k fs).tb = s.tb := rfl
@[simp] theorem State.writeRecord_tau (s : State) (k : RecordKind) (fs : List Field) :
    (s.writeRecord k fs).tau = s.tau := rfl
@[simp] theorem State.writeRecord_groups (s : State) (k : RecordKind) (fs : List Field) :
    (s.writeRecord k fs).groups = s.groups := rfl
@[simp] theorem State.writeRecord_profiles (s : State) (k : RecordKind) (fs : List Field) :
    (s.writeRecord k fs).profiles = s.profiles := rfl
@[simp] theorem State.writeRecord_ct (s : State) (k : RecordKind) (fs : List Field) :
    (s.writeRecord k fs).ct = s.ct := rfl
@[simp] theorem State.writeRecord_agr (s : State) (k : RecordKind) (fs : List Field) :
    (s.writeRecord k fs).agr = s.agr := rfl
@[simp] theorem State.writeRecord_ru (s : State) (k : RecordKind) (fs : List Field) :
    (s.writeRecord k fs).ru = s.ru := rfl
@[simp] theorem State.writeRecord_afl (s : State) (k : RecordKind) (fs : List Field) :
    (s.writeRecord k fs).afl = s.afl := rfl
@[simp] theorem State.writeRecord_resets (s : State) (k : RecordKind) (fs : List Field) :
    (s.writeRecord k fs).resets = s.resets := rfl
@[simp] theorem State.writeRecord_pending (s : State) (k : RecordKind) (fs : List Field) :
    (s.writeRecord k fs).pending = s.pending := rfl

@[simp] theorem State.writeCount_cc (s : State) (k : RecordKind) : (s.writeCount k).cc = s.cc := rfl
@[simp] theorem State.writeCount_tb (s : State) (k : RecordKind) : (s.writeCount k).tb = s.tb := rfl
@[simp] theorem State.writeCount_tau (s : State) (k : RecordKind) :
    (s.writeCount k).tau = s.tau := rfl
@[simp] theorem State.writeCount_groups (s : State) (k : RecordKind) :
    (s.writeCount k).groups = s.groups := rfl
@[simp] theorem State.writeCount_profiles (s : State) (k : RecordKind) :
    (s.writeCount k).profiles = s.profiles := rfl
@[simp] theorem State.writeCount_ct (s : State) (k : RecordKind) : (s.writeCount k).ct = s.ct := rfl
@[simp] theorem State.writeCount_agr (s : State) (k : RecordKind) :
    (s.writeCount k).agr = s.agr := rfl
@[simp] theorem State.writeCount_ru (s : State) (k : RecordKind) : (s.writeCount k).ru = s.ru := rfl
@[simp] theorem State.writeCount_afl (s : State) (k : RecordKind) :
    (s.writeCount k).afl = s.afl := rfl
@[simp] theorem State.writeCount_resets (s : State) (k : RecordKind) :
    (s.writeCount k).resets = s.resets := rfl
@[simp] theorem State.writeCount_pending (s : State) (k : RecordKind) :
    (s.writeCount k).pending = s.pending := rfl

@[simp] theorem State.writeHeader_cc (s : State) : (s.writeHeader).cc = s.cc := rfl
@[simp] theorem State.writeHeader_tb (s : State) : (s.writeHeader).tb = s.tb := rfl
@[simp] theorem State.writeHeader_tau (s : State) : (s.writeHeader).tau = s.tau := rfl
@[simp] theorem State.writeHeader_groups (s : State) : (s.writeHeader).groups = s.groups := rfl
@[simp] theorem State.writeHeader_profiles (s : State) :
    (s.writeHeader).profiles = s.profiles := rfl
@[simp] theorem State.writeHeader_ct (s : State) : (s.writeHeader).ct = s.ct := rfl
@[simp] theorem State.writeHeader_agr (s : State) : (s.writeHeader).agr = s.agr := rfl
@[simp] theorem State.writeHeader_ru (s : State) : (s.writeHeader).ru = s.ru := rfl
@[simp] theorem State.writeHeader_afl (s : State) : (s.writeHeader).afl = s.afl := rfl
@[simp] theorem State.writeHeader_resets (s : State) : (s.writeHeader).resets = s.resets := rfl
@[simp] theorem State.writeHeader_pending (s : State) : (s.writeHeader).pending = s.pending := rfl

@[simp] theorem State.issuePrefetch_cc (s : State) : (s.issuePrefetch).cc = s.cc := rfl
@[simp] theorem State.issuePrefetch_tb (s : State) : (s.issuePrefetch).tb = s.tb := rfl
@[simp] theorem State.issuePrefetch_tau (s : State) : (s.issuePrefetch).tau = s.tau := rfl
@[simp] theorem State.issuePrefetch_groups (s : State) : (s.issuePrefetch).groups = s.groups := rfl
@[simp] theorem State.issuePrefetch_profiles (s : State) :
    (s.issuePrefetch).profiles = s.profiles := rfl
@[simp] theorem State.issuePrefetch_ct (s : State) : (s.issuePrefetch).ct = s.ct := rfl
@[simp] theorem State.issuePrefetch_agr (s : State) : (s.issuePrefetch).agr = s.agr := rfl
@[simp] theorem State.issuePrefetch_ru (s : State) : (s.issuePrefetch).ru = s.ru := rfl
@[simp] theorem State.issuePrefetch_afl (s : State) : (s.issuePrefetch).afl = s.afl := rfl
@[simp] theorem State.issuePrefetch_resets (s : State) : (s.issuePrefetch).resets = s.resets := rfl
@[simp] theorem State.issuePrefetch_pending (s : State) :
    (s.issuePrefetch).pending = s.pending := rfl

@[simp] theorem State.journalAdvance_cc (s : State) :
    (s.journalAdvance).cc = s.cc := by unfold State.journalAdvance; repeat (first | rfl | simp | split)
@[simp] theorem State.journalAdvance_tb (s : State) :
    (s.journalAdvance).tb = s.tb := by unfold State.journalAdvance; repeat (first | rfl | simp | split)
@[simp] theorem State.journalAdvance_tau (s : State) :
    (s.journalAdvance).tau = s.tau := by unfold State.journalAdvance; repeat (first | rfl | simp | split)
@[simp] theorem State.journalAdvance_groups (s : State) :
    (s.journalAdvance).groups = s.groups := by unfold State.journalAdvance; repeat (first | rfl | simp | split)
@[simp] theorem State.journalAdvance_profiles (s : State) :
    (s.journalAdvance).profiles = s.profiles := by unfold State.journalAdvance; repeat (first | rfl | simp | split)
@[simp] theorem State.journalAdvance_ct (s : State) :
    (s.journalAdvance).ct = s.ct := by unfold State.journalAdvance; repeat (first | rfl | simp | split)
@[simp] theorem State.journalAdvance_agr (s : State) :
    (s.journalAdvance).agr = s.agr := by unfold State.journalAdvance; repeat (first | rfl | simp | split)
@[simp] theorem State.journalAdvance_ru (s : State) :
    (s.journalAdvance).ru = s.ru := by unfold State.journalAdvance; repeat (first | rfl | simp | split)
@[simp] theorem State.journalAdvance_afl (s : State) :
    (s.journalAdvance).afl = s.afl := by unfold State.journalAdvance; repeat (first | rfl | simp | split)
@[simp] theorem State.journalAdvance_resets (s : State) :
    (s.journalAdvance).resets = s.resets := by unfold State.journalAdvance; repeat (first | rfl | simp | split)
@[simp] theorem State.journalAdvance_pending (s : State) :
    (s.journalAdvance).pending = s.pending := by unfold State.journalAdvance; repeat (first | rfl | simp | split)

@[simp] theorem State.placeHold_cc (s : State) (e : HoldEntry) :
    (s.placeHold e).cc = s.cc := by simp [State.placeHold]
@[simp] theorem State.placeHold_tb (s : State) (e : HoldEntry) :
    (s.placeHold e).tb = s.tb := by simp [State.placeHold]
@[simp] theorem State.placeHold_tau (s : State) (e : HoldEntry) :
    (s.placeHold e).tau = s.tau := by simp [State.placeHold]
@[simp] theorem State.placeHold_groups (s : State) (e : HoldEntry) :
    (s.placeHold e).groups = s.groups := by simp [State.placeHold]
@[simp] theorem State.placeHold_profiles (s : State) (e : HoldEntry) :
    (s.placeHold e).profiles = s.profiles := by simp [State.placeHold]
@[simp] theorem State.placeHold_ct (s : State) (e : HoldEntry) :
    (s.placeHold e).ct = s.ct := by simp [State.placeHold]
@[simp] theorem State.placeHold_agr (s : State) (e : HoldEntry) :
    (s.placeHold e).agr = s.agr := by simp [State.placeHold]
@[simp] theorem State.placeHold_ru (s : State) (e : HoldEntry) :
    (s.placeHold e).ru = s.ru := by simp [State.placeHold]
@[simp] theorem State.placeHold_afl (s : State) (e : HoldEntry) :
    (s.placeHold e).afl = s.afl := by simp [State.placeHold]
@[simp] theorem State.placeHold_resets (s : State) (e : HoldEntry) :
    (s.placeHold e).resets = s.resets := by simp [State.placeHold]
@[simp] theorem State.placeHold_pending (s : State) (e : HoldEntry) :
    (s.placeHold e).pending = s.pending := by simp [State.placeHold]

@[simp] theorem State.completePeriod_cc (s : State) : (s.completePeriod).cc = s.cc := rfl
@[simp] theorem State.completePeriod_tb (s : State) : (s.completePeriod).tb = s.tb := rfl
@[simp] theorem State.completePeriod_tau (s : State) : (s.completePeriod).tau = s.tau := rfl
@[simp] theorem State.completePeriod_groups (s : State) :
    (s.completePeriod).groups = s.groups := rfl
@[simp] theorem State.completePeriod_profiles (s : State) :
    (s.completePeriod).profiles = s.profiles := rfl
@[simp] theorem State.completePeriod_ct (s : State) : (s.completePeriod).ct = s.ct := rfl
@[simp] theorem State.completePeriod_agr (s : State) : (s.completePeriod).agr = s.agr := rfl
@[simp] theorem State.completePeriod_ru (s : State) : (s.completePeriod).ru = s.ru := rfl
@[simp] theorem State.completePeriod_resets (s : State) :
    (s.completePeriod).resets = s.resets := rfl
@[simp] theorem State.completePeriod_pending (s : State) :
    (s.completePeriod).pending = s.pending := rfl

@[simp] theorem State.finishClose_cc (s : State) (b : Bool) :
    (s.finishClose b).cc = s.cc := by unfold State.finishClose; split <;> rfl
@[simp] theorem State.finishClose_tb (s : State) (b : Bool) :
    (s.finishClose b).tb = s.tb := by unfold State.finishClose; split <;> rfl
@[simp] theorem State.finishClose_tau (s : State) (b : Bool) :
    (s.finishClose b).tau = s.tau := by unfold State.finishClose; split <;> rfl
@[simp] theorem State.finishClose_groups (s : State) (b : Bool) :
    (s.finishClose b).groups = s.groups := by unfold State.finishClose; split <;> rfl
@[simp] theorem State.finishClose_profiles (s : State) (b : Bool) :
    (s.finishClose b).profiles = s.profiles := by unfold State.finishClose; split <;> rfl
@[simp] theorem State.finishClose_ct (s : State) (b : Bool) :
    (s.finishClose b).ct = s.ct := by unfold State.finishClose; split <;> rfl
@[simp] theorem State.finishClose_agr (s : State) (b : Bool) :
    (s.finishClose b).agr = s.agr := by unfold State.finishClose; split <;> rfl
@[simp] theorem State.finishClose_ru (s : State) (b : Bool) :
    (s.finishClose b).ru = s.ru := by unfold State.finishClose; split <;> rfl
@[simp] theorem State.finishClose_resets (s : State) (b : Bool) :
    (s.finishClose b).resets = s.resets := by unfold State.finishClose; split <;> rfl
@[simp] theorem State.finishClose_pending (s : State) (b : Bool) :
    (s.finishClose b).pending = s.pending := by unfold State.finishClose; split <;> rfl

@[simp] theorem State.finishCloseOf_cc (s : State) (f : Option JournalFlight) :
    (s.finishCloseOf f).cc = s.cc := by unfold State.finishCloseOf; split <;> simp
@[simp] theorem State.finishCloseOf_tb (s : State) (f : Option JournalFlight) :
    (s.finishCloseOf f).tb = s.tb := by unfold State.finishCloseOf; split <;> simp
@[simp] theorem State.finishCloseOf_tau (s : State) (f : Option JournalFlight) :
    (s.finishCloseOf f).tau = s.tau := by unfold State.finishCloseOf; split <;> simp
@[simp] theorem State.finishCloseOf_groups (s : State) (f : Option JournalFlight) :
    (s.finishCloseOf f).groups = s.groups := by unfold State.finishCloseOf; split <;> simp
@[simp] theorem State.finishCloseOf_profiles (s : State) (f : Option JournalFlight) :
    (s.finishCloseOf f).profiles = s.profiles := by unfold State.finishCloseOf; split <;> simp
@[simp] theorem State.finishCloseOf_ct (s : State) (f : Option JournalFlight) :
    (s.finishCloseOf f).ct = s.ct := by unfold State.finishCloseOf; split <;> simp
@[simp] theorem State.finishCloseOf_agr (s : State) (f : Option JournalFlight) :
    (s.finishCloseOf f).agr = s.agr := by unfold State.finishCloseOf; split <;> simp
@[simp] theorem State.finishCloseOf_ru (s : State) (f : Option JournalFlight) :
    (s.finishCloseOf f).ru = s.ru := by unfold State.finishCloseOf; split <;> simp
@[simp] theorem State.finishCloseOf_resets (s : State) (f : Option JournalFlight) :
    (s.finishCloseOf f).resets = s.resets := by unfold State.finishCloseOf; split <;> simp
@[simp] theorem State.finishCloseOf_pending (s : State) (f : Option JournalFlight) :
    (s.finishCloseOf f).pending = s.pending := by unfold State.finishCloseOf; split <;> simp

@[simp] theorem State.restartJournal_cc (s : State) :
    (s.restartJournal).cc = s.cc := by simp [State.restartJournal]
@[simp] theorem State.restartJournal_tau (s : State) :
    (s.restartJournal).tau = s.tau := by simp [State.restartJournal]
@[simp] theorem State.restartJournal_groups (s : State) :
    (s.restartJournal).groups = s.groups := by simp [State.restartJournal]
@[simp] theorem State.restartJournal_profiles (s : State) :
    (s.restartJournal).profiles = s.profiles := by simp [State.restartJournal]
@[simp] theorem State.restartJournal_ct (s : State) :
    (s.restartJournal).ct = s.ct := by simp [State.restartJournal]
@[simp] theorem State.restartJournal_agr (s : State) :
    (s.restartJournal).agr = s.agr := by simp [State.restartJournal]
@[simp] theorem State.restartJournal_ru (s : State) :
    (s.restartJournal).ru = s.ru := by simp [State.restartJournal]
@[simp] theorem State.restartJournal_resets (s : State) :
    (s.restartJournal).resets = s.resets := by simp [State.restartJournal]
@[simp] theorem State.restartJournal_pending (s : State) :
    (s.restartJournal).pending = s.pending := by simp [State.restartJournal]

@[simp] theorem State.startJournal_cc (s : State) :
    (s.startJournal).cc = s.cc := by unfold State.startJournal; split <;> simp
@[simp] theorem State.startJournal_tau (s : State) :
    (s.startJournal).tau = s.tau := by unfold State.startJournal; split <;> simp
@[simp] theorem State.startJournal_groups (s : State) :
    (s.startJournal).groups = s.groups := by unfold State.startJournal; split <;> simp
@[simp] theorem State.startJournal_profiles (s : State) :
    (s.startJournal).profiles = s.profiles := by unfold State.startJournal; split <;> simp
@[simp] theorem State.startJournal_ct (s : State) :
    (s.startJournal).ct = s.ct := by unfold State.startJournal; split <;> simp
@[simp] theorem State.startJournal_agr (s : State) :
    (s.startJournal).agr = s.agr := by unfold State.startJournal; split <;> simp
@[simp] theorem State.startJournal_ru (s : State) :
    (s.startJournal).ru = s.ru := by unfold State.startJournal; split <;> simp
@[simp] theorem State.startJournal_afl (s : State) :
    (s.startJournal).afl = s.afl := by unfold State.startJournal; split <;> simp
@[simp] theorem State.startJournal_resets (s : State) :
    (s.startJournal).resets = s.resets := by unfold State.startJournal; split <;> simp
@[simp] theorem State.startJournal_pending (s : State) :
    (s.startJournal).pending = s.pending := by unfold State.startJournal; split <;> simp

@[simp] theorem State.reopenJournal_cc (s : State) :
    (s.reopenJournal).cc = s.cc := by simp [State.reopenJournal]
@[simp] theorem State.reopenJournal_tau (s : State) :
    (s.reopenJournal).tau = s.tau := by simp [State.reopenJournal]
@[simp] theorem State.reopenJournal_groups (s : State) :
    (s.reopenJournal).groups = s.groups := by simp [State.reopenJournal]
@[simp] theorem State.reopenJournal_profiles (s : State) :
    (s.reopenJournal).profiles = s.profiles := by simp [State.reopenJournal]
@[simp] theorem State.reopenJournal_ct (s : State) :
    (s.reopenJournal).ct = s.ct := by simp [State.reopenJournal]
@[simp] theorem State.reopenJournal_agr (s : State) :
    (s.reopenJournal).agr = s.agr := by simp [State.reopenJournal]
@[simp] theorem State.reopenJournal_ru (s : State) :
    (s.reopenJournal).ru = s.ru := by simp [State.reopenJournal]
@[simp] theorem State.reopenJournal_resets (s : State) :
    (s.reopenJournal).resets = s.resets := by simp [State.reopenJournal]
@[simp] theorem State.reopenJournal_pending (s : State) :
    (s.reopenJournal).pending = s.pending := by simp [State.reopenJournal]

@[simp] theorem State.nudgeJournal_cc (s : State) :
    (s.nudgeJournal).cc = s.cc := by unfold State.nudgeJournal; split <;> simp
@[simp] theorem State.nudgeJournal_tau (s : State) :
    (s.nudgeJournal).tau = s.tau := by unfold State.nudgeJournal; split <;> simp
@[simp] theorem State.nudgeJournal_groups (s : State) :
    (s.nudgeJournal).groups = s.groups := by unfold State.nudgeJournal; split <;> simp
@[simp] theorem State.nudgeJournal_profiles (s : State) :
    (s.nudgeJournal).profiles = s.profiles := by unfold State.nudgeJournal; split <;> simp
@[simp] theorem State.nudgeJournal_ct (s : State) :
    (s.nudgeJournal).ct = s.ct := by unfold State.nudgeJournal; split <;> simp
@[simp] theorem State.nudgeJournal_agr (s : State) :
    (s.nudgeJournal).agr = s.agr := by unfold State.nudgeJournal; split <;> simp
@[simp] theorem State.nudgeJournal_ru (s : State) :
    (s.nudgeJournal).ru = s.ru := by unfold State.nudgeJournal; split <;> simp
@[simp] theorem State.nudgeJournal_afl (s : State) :
    (s.nudgeJournal).afl = s.afl := by unfold State.nudgeJournal; split <;> simp
@[simp] theorem State.nudgeJournal_resets (s : State) :
    (s.nudgeJournal).resets = s.resets := by unfold State.nudgeJournal; split <;> simp
@[simp] theorem State.nudgeJournal_pending (s : State) :
    (s.nudgeJournal).pending = s.pending := by unfold State.nudgeJournal; split <;> simp

@[simp] theorem State.enterPage_cc (s : State) (p : Addr) :
    (s.enterPage p).cc = s.cc := by simp [State.enterPage]
@[simp] theorem State.enterPage_tau (s : State) (p : Addr) :
    (s.enterPage p).tau = s.tau := by simp [State.enterPage]
@[simp] theorem State.enterPage_groups (s : State) (p : Addr) :
    (s.enterPage p).groups = s.groups := by simp [State.enterPage]
@[simp] theorem State.enterPage_profiles (s : State) (p : Addr) :
    (s.enterPage p).profiles = s.profiles := by simp [State.enterPage]
@[simp] theorem State.enterPage_ct (s : State) (p : Addr) :
    (s.enterPage p).ct = s.ct := by simp [State.enterPage]
@[simp] theorem State.enterPage_agr (s : State) (p : Addr) :
    (s.enterPage p).agr = s.agr := by simp [State.enterPage]
@[simp] theorem State.enterPage_ru (s : State) (p : Addr) :
    (s.enterPage p).ru = s.ru := by simp [State.enterPage]
@[simp] theorem State.enterPage_afl (s : State) (p : Addr) :
    (s.enterPage p).afl = s.afl := by simp [State.enterPage]
@[simp] theorem State.enterPage_resets (s : State) (p : Addr) :
    (s.enterPage p).resets = s.resets := by simp [State.enterPage]
@[simp] theorem State.enterPage_pending (s : State) (p : Addr) :
    (s.enterPage p).pending = s.pending := by simp [State.enterPage]

@[simp] theorem State.waitForPage_cc (s : State) (b : Bool) :
    (s.waitForPage b).cc = s.cc := by unfold State.waitForPage; repeat (first | rfl | simp | split)
@[simp] theorem State.waitForPage_tau (s : State) (b : Bool) :
    (s.waitForPage b).tau = s.tau := by unfold State.waitForPage; repeat (first | rfl | simp | split)
@[simp] theorem State.waitForPage_groups (s : State) (b : Bool) :
    (s.waitForPage b).groups = s.groups := by unfold State.waitForPage; repeat (first | rfl | simp | split)
@[simp] theorem State.waitForPage_profiles (s : State) (b : Bool) :
    (s.waitForPage b).profiles = s.profiles := by unfold State.waitForPage; repeat (first | rfl | simp | split)
@[simp] theorem State.waitForPage_ct (s : State) (b : Bool) :
    (s.waitForPage b).ct = s.ct := by unfold State.waitForPage; repeat (first | rfl | simp | split)
@[simp] theorem State.waitForPage_agr (s : State) (b : Bool) :
    (s.waitForPage b).agr = s.agr := by unfold State.waitForPage; repeat (first | rfl | simp | split)
@[simp] theorem State.waitForPage_ru (s : State) (b : Bool) :
    (s.waitForPage b).ru = s.ru := by unfold State.waitForPage; repeat (first | rfl | simp | split)
@[simp] theorem State.waitForPage_resets (s : State) (b : Bool) :
    (s.waitForPage b).resets = s.resets := by unfold State.waitForPage; repeat (first | rfl | simp | split)
@[simp] theorem State.waitForPage_pending (s : State) (b : Bool) :
    (s.waitForPage b).pending = s.pending := by unfold State.waitForPage; repeat (first | rfl | simp | split)

@[simp] theorem State.openAfterClose_cc (s : State) :
    (s.openAfterClose).cc = s.cc := by unfold State.openAfterClose; split <;> simp
@[simp] theorem State.openAfterClose_tau (s : State) :
    (s.openAfterClose).tau = s.tau := by unfold State.openAfterClose; split <;> simp
@[simp] theorem State.openAfterClose_groups (s : State) :
    (s.openAfterClose).groups = s.groups := by unfold State.openAfterClose; split <;> simp
@[simp] theorem State.openAfterClose_profiles (s : State) :
    (s.openAfterClose).profiles = s.profiles := by unfold State.openAfterClose; split <;> simp
@[simp] theorem State.openAfterClose_ct (s : State) :
    (s.openAfterClose).ct = s.ct := by unfold State.openAfterClose; split <;> simp
@[simp] theorem State.openAfterClose_agr (s : State) :
    (s.openAfterClose).agr = s.agr := by unfold State.openAfterClose; split <;> simp
@[simp] theorem State.openAfterClose_ru (s : State) :
    (s.openAfterClose).ru = s.ru := by unfold State.openAfterClose; split <;> simp
@[simp] theorem State.openAfterClose_afl (s : State) :
    (s.openAfterClose).afl = s.afl := by unfold State.openAfterClose; split <;> simp
@[simp] theorem State.openAfterClose_resets (s : State) :
    (s.openAfterClose).resets = s.resets := by unfold State.openAfterClose; split <;> simp
@[simp] theorem State.openAfterClose_pending (s : State) :
    (s.openAfterClose).pending = s.pending := by unfold State.openAfterClose; split <;> simp

@[simp] theorem State.recordCounted_cc (s : State) (k : RecordKind) :
    (s.recordCounted k).cc = s.cc := by unfold State.recordCounted; split <;> rfl
@[simp] theorem State.recordCounted_tb (s : State) (k : RecordKind) :
    (s.recordCounted k).tb = s.tb := by unfold State.recordCounted; split <;> rfl
@[simp] theorem State.recordCounted_tau (s : State) (k : RecordKind) :
    (s.recordCounted k).tau = s.tau := by unfold State.recordCounted; split <;> rfl
@[simp] theorem State.recordCounted_groups (s : State) (k : RecordKind) :
    (s.recordCounted k).groups = s.groups := by unfold State.recordCounted; split <;> rfl
@[simp] theorem State.recordCounted_profiles (s : State) (k : RecordKind) :
    (s.recordCounted k).profiles = s.profiles := by unfold State.recordCounted; split <;> rfl
@[simp] theorem State.recordCounted_ct (s : State) (k : RecordKind) :
    (s.recordCounted k).ct = s.ct := by unfold State.recordCounted; split <;> rfl
@[simp] theorem State.recordCounted_agr (s : State) (k : RecordKind) :
    (s.recordCounted k).agr = s.agr := by unfold State.recordCounted; split <;> rfl
@[simp] theorem State.recordCounted_ru (s : State) (k : RecordKind) :
    (s.recordCounted k).ru = s.ru := by unfold State.recordCounted; split <;> rfl
@[simp] theorem State.recordCounted_afl (s : State) (k : RecordKind) :
    (s.recordCounted k).afl = s.afl := by unfold State.recordCounted; split <;> rfl
@[simp] theorem State.recordCounted_resets (s : State) (k : RecordKind) :
    (s.recordCounted k).resets = s.resets := by unfold State.recordCounted; split <;> rfl
@[simp] theorem State.recordCounted_pending (s : State) (k : RecordKind) :
    (s.recordCounted k).pending = s.pending := by unfold State.recordCounted; split <;> rfl

@[simp] theorem State.afterCount_cc (s : State) (k : RecordKind) :
    (s.afterCount k).cc = s.cc := by unfold State.afterCount; repeat (first | rfl | simp | split)
@[simp] theorem State.afterCount_tb (s : State) (k : RecordKind) :
    (s.afterCount k).tb = s.tb := by unfold State.afterCount; repeat (first | rfl | simp | split)
@[simp] theorem State.afterCount_tau (s : State) (k : RecordKind) :
    (s.afterCount k).tau = s.tau := by unfold State.afterCount; repeat (first | rfl | simp | split)
@[simp] theorem State.afterCount_groups (s : State) (k : RecordKind) :
    (s.afterCount k).groups = s.groups := by unfold State.afterCount; repeat (first | rfl | simp | split)
@[simp] theorem State.afterCount_profiles (s : State) (k : RecordKind) :
    (s.afterCount k).profiles = s.profiles := by unfold State.afterCount; repeat (first | rfl | simp | split)
@[simp] theorem State.afterCount_ct (s : State) (k : RecordKind) :
    (s.afterCount k).ct = s.ct := by unfold State.afterCount; repeat (first | rfl | simp | split)
@[simp] theorem State.afterCount_agr (s : State) (k : RecordKind) :
    (s.afterCount k).agr = s.agr := by unfold State.afterCount; repeat (first | rfl | simp | split)
@[simp] theorem State.afterCount_ru (s : State) (k : RecordKind) :
    (s.afterCount k).ru = s.ru := by unfold State.afterCount; repeat (first | rfl | simp | split)
@[simp] theorem State.afterCount_afl (s : State) (k : RecordKind) :
    (s.afterCount k).afl = s.afl := by unfold State.afterCount; repeat (first | rfl | simp | split)
@[simp] theorem State.afterCount_resets (s : State) (k : RecordKind) :
    (s.afterCount k).resets = s.resets := by unfold State.afterCount; repeat (first | rfl | simp | split)
@[simp] theorem State.afterCount_pending (s : State) (k : RecordKind) :
    (s.afterCount k).pending = s.pending := by unfold State.afterCount; repeat (first | rfl | simp | split)

@[simp] theorem State.journalFault_cc (s : State) (k : FaultKind) (f : JournalFlight) :
    (s.journalFault k f).cc = s.cc := by simp [State.journalFault]
@[simp] theorem State.journalFault_tau (s : State) (k : FaultKind) (f : JournalFlight) :
    (s.journalFault k f).tau = s.tau := by simp [State.journalFault]
@[simp] theorem State.journalFault_groups (s : State) (k : FaultKind) (f : JournalFlight) :
    (s.journalFault k f).groups = s.groups := by simp [State.journalFault]
@[simp] theorem State.journalFault_profiles (s : State) (k : FaultKind) (f : JournalFlight) :
    (s.journalFault k f).profiles = s.profiles := by simp [State.journalFault]
@[simp] theorem State.journalFault_ct (s : State) (k : FaultKind) (f : JournalFlight) :
    (s.journalFault k f).ct = s.ct := by simp [State.journalFault]
@[simp] theorem State.journalFault_agr (s : State) (k : FaultKind) (f : JournalFlight) :
    (s.journalFault k f).agr = s.agr := by simp [State.journalFault]
@[simp] theorem State.journalFault_ru (s : State) (k : FaultKind) (f : JournalFlight) :
    (s.journalFault k f).ru = s.ru := by simp [State.journalFault]
@[simp] theorem State.journalFault_resets (s : State) (k : FaultKind) (f : JournalFlight) :
    (s.journalFault k f).resets = s.resets := by simp [State.journalFault]
@[simp] theorem State.journalFault_pending (s : State) (k : FaultKind) (f : JournalFlight) :
    (s.journalFault k f).pending = s.pending := by simp [State.journalFault]

@[simp] theorem State.pollExpiry_tau (s : State) :
    (s.pollExpiry).tau = s.tau := by unfold State.pollExpiry; repeat (first | rfl | simp | split)
@[simp] theorem State.pollExpiry_groups (s : State) :
    (s.pollExpiry).groups = s.groups := by unfold State.pollExpiry; repeat (first | rfl | simp | split)
@[simp] theorem State.pollExpiry_profiles (s : State) :
    (s.pollExpiry).profiles = s.profiles := by unfold State.pollExpiry; repeat (first | rfl | simp | split)
@[simp] theorem State.pollExpiry_ct (s : State) :
    (s.pollExpiry).ct = s.ct := by unfold State.pollExpiry; repeat (first | rfl | simp | split)
@[simp] theorem State.pollExpiry_agr (s : State) :
    (s.pollExpiry).agr = s.agr := by unfold State.pollExpiry; repeat (first | rfl | simp | split)
@[simp] theorem State.pollExpiry_ru (s : State) :
    (s.pollExpiry).ru = s.ru := by unfold State.pollExpiry; repeat (first | rfl | simp | split)
@[simp] theorem State.pollExpiry_afl (s : State) :
    (s.pollExpiry).afl = s.afl := by unfold State.pollExpiry; repeat (first | rfl | simp | split)
@[simp] theorem State.pollExpiry_resets (s : State) :
    (s.pollExpiry).resets = s.resets := by unfold State.pollExpiry; repeat (first | rfl | simp | split)
@[simp] theorem State.pollExpiry_pending (s : State) :
    (s.pollExpiry).pending = s.pending := by unfold State.pollExpiry; repeat (first | rfl | simp | split)

@[simp] theorem State.loadAnchor_groups (s : State) (f : AnchorFields) :
    (s.loadAnchor f).groups = s.groups := by simp [State.loadAnchor]
@[simp] theorem State.loadAnchor_profiles (s : State) (f : AnchorFields) :
    (s.loadAnchor f).profiles = s.profiles := by simp [State.loadAnchor]
@[simp] theorem State.loadAnchor_ct (s : State) (f : AnchorFields) :
    (s.loadAnchor f).ct = s.ct := by simp [State.loadAnchor]
@[simp] theorem State.loadAnchor_agr (s : State) (f : AnchorFields) :
    (s.loadAnchor f).agr = s.agr := by simp [State.loadAnchor]
@[simp] theorem State.loadAnchor_ru (s : State) (f : AnchorFields) :
    (s.loadAnchor f).ru = s.ru := by simp [State.loadAnchor]
@[simp] theorem State.loadAnchor_resets (s : State) (f : AnchorFields) :
    (s.loadAnchor f).resets = s.resets := by simp [State.loadAnchor]
@[simp] theorem State.loadAnchor_pending (s : State) (f : AnchorFields) :
    (s.loadAnchor f).pending = s.pending := by simp [State.loadAnchor]

@[simp] theorem State.start_tau (s : State) :
    (s.start).tau = s.tau := by unfold State.start; repeat (first | rfl | simp | split)
@[simp] theorem State.start_groups (s : State) :
    (s.start).groups = s.groups := by unfold State.start; repeat (first | rfl | simp | split)
@[simp] theorem State.start_profiles (s : State) :
    (s.start).profiles = s.profiles := by unfold State.start; repeat (first | rfl | simp | split)
@[simp] theorem State.start_ct (s : State) :
    (s.start).ct = s.ct := by unfold State.start; repeat (first | rfl | simp | split)
@[simp] theorem State.start_agr (s : State) :
    (s.start).agr = s.agr := by unfold State.start; repeat (first | rfl | simp | split)
@[simp] theorem State.start_ru (s : State) :
    (s.start).ru = s.ru := by unfold State.start; repeat (first | rfl | simp | split)
@[simp] theorem State.start_afl (s : State) :
    (s.start).afl = s.afl := by unfold State.start; repeat (first | rfl | simp | split)
@[simp] theorem State.start_resets (s : State) :
    (s.start).resets = s.resets := by unfold State.start; repeat (first | rfl | simp | split)
@[simp] theorem State.start_pending (s : State) :
    (s.start).pending = s.pending := by unfold State.start; repeat (first | rfl | simp | split)

@[simp] theorem State.restart_groups (s : State) :
    (s.restart).groups = s.groups := by simp [State.restart]
@[simp] theorem State.restart_profiles (s : State) :
    (s.restart).profiles = s.profiles := by simp [State.restart]
@[simp] theorem State.restart_ct (s : State) : (s.restart).ct = s.ct := by simp [State.restart]
@[simp] theorem State.restart_agr (s : State) : (s.restart).agr = s.agr := by simp [State.restart]
@[simp] theorem State.restart_ru (s : State) : (s.restart).ru = s.ru := by simp [State.restart]
@[simp] theorem State.restart_resets (s : State) :
    (s.restart).resets = s.resets := by simp [State.restart]
@[simp] theorem State.restart_pending (s : State) :
    (s.restart).pending = s.pending := by simp [State.restart]

end Sys2Proof.Machine
end

