-- ==== Sys2Proof/Laws/FramesCalls.lean ====
section
/-! SUPPORT. What the operations on calls, groups, agreements and settlement leave unchanged, part by
part. -/

namespace Sys2Proof.Machine

@[simp] theorem State.monitor_cc (s : State) (g : GroupId) (x : Group × Bool) :
    (s.monitor g x).cc = s.cc := by unfold State.monitor; split <;> rfl
@[simp] theorem State.monitor_tb (s : State) (g : GroupId) (x : Group × Bool) :
    (s.monitor g x).tb = s.tb := by unfold State.monitor; split <;> rfl
@[simp] theorem State.monitor_tau (s : State) (g : GroupId) (x : Group × Bool) :
    (s.monitor g x).tau = s.tau := by unfold State.monitor; split <;> rfl
@[simp] theorem State.monitor_profiles (s : State) (g : GroupId) (x : Group × Bool) :
    (s.monitor g x).profiles = s.profiles := by unfold State.monitor; split <;> rfl
@[simp] theorem State.monitor_ct (s : State) (g : GroupId) (x : Group × Bool) :
    (s.monitor g x).ct = s.ct := by unfold State.monitor; split <;> rfl
@[simp] theorem State.monitor_agr (s : State) (g : GroupId) (x : Group × Bool) :
    (s.monitor g x).agr = s.agr := by unfold State.monitor; split <;> rfl
@[simp] theorem State.monitor_ru (s : State) (g : GroupId) (x : Group × Bool) :
    (s.monitor g x).ru = s.ru := by unfold State.monitor; split <;> rfl
@[simp] theorem State.monitor_jw (s : State) (g : GroupId) (x : Group × Bool) :
    (s.monitor g x).jw = s.jw := by unfold State.monitor; split <;> rfl
@[simp] theorem State.monitor_resets (s : State) (g : GroupId) (x : Group × Bool) :
    (s.monitor g x).resets = s.resets := by unfold State.monitor; split <;> rfl
@[simp] theorem State.monitor_pending (s : State) (g : GroupId) (x : Group × Bool) :
    (s.monitor g x).pending = s.pending := by unfold State.monitor; split <;> rfl

@[simp] theorem State.pressure_cc (s : State) (g : GroupId) :
    (s.pressure g).cc = s.cc := by simp [State.pressure]
@[simp] theorem State.pressure_tb (s : State) (g : GroupId) :
    (s.pressure g).tb = s.tb := by simp [State.pressure]
@[simp] theorem State.pressure_tau (s : State) (g : GroupId) :
    (s.pressure g).tau = s.tau := by simp [State.pressure]
@[simp] theorem State.pressure_profiles (s : State) (g : GroupId) :
    (s.pressure g).profiles = s.profiles := by simp [State.pressure]
@[simp] theorem State.pressure_ct (s : State) (g : GroupId) :
    (s.pressure g).ct = s.ct := by simp [State.pressure]
@[simp] theorem State.pressure_agr (s : State) (g : GroupId) :
    (s.pressure g).agr = s.agr := by simp [State.pressure]
@[simp] theorem State.pressure_ru (s : State) (g : GroupId) :
    (s.pressure g).ru = s.ru := by simp [State.pressure]
@[simp] theorem State.pressure_jw (s : State) (g : GroupId) :
    (s.pressure g).jw = s.jw := by simp [State.pressure]
@[simp] theorem State.pressure_resets (s : State) (g : GroupId) :
    (s.pressure g).resets = s.resets := by simp [State.pressure]
@[simp] theorem State.pressure_pending (s : State) (g : GroupId) :
    (s.pressure g).pending = s.pending := by simp [State.pressure]

@[simp] theorem State.claim_cc (s : State) (g : GroupId) : (s.claim g).cc = s.cc := rfl
@[simp] theorem State.claim_tb (s : State) (g : GroupId) : (s.claim g).tb = s.tb := rfl
@[simp] theorem State.claim_tau (s : State) (g : GroupId) : (s.claim g).tau = s.tau := rfl
@[simp] theorem State.claim_profiles (s : State) (g : GroupId) :
    (s.claim g).profiles = s.profiles := rfl
@[simp] theorem State.claim_ct (s : State) (g : GroupId) : (s.claim g).ct = s.ct := rfl
@[simp] theorem State.claim_agr (s : State) (g : GroupId) : (s.claim g).agr = s.agr := rfl
@[simp] theorem State.claim_ru (s : State) (g : GroupId) : (s.claim g).ru = s.ru := rfl
@[simp] theorem State.claim_jw (s : State) (g : GroupId) : (s.claim g).jw = s.jw := rfl
@[simp] theorem State.claim_afl (s : State) (g : GroupId) : (s.claim g).afl = s.afl := rfl
@[simp] theorem State.claim_resets (s : State) (g : GroupId) : (s.claim g).resets = s.resets := rfl
@[simp] theorem State.claim_pending (s : State) (g : GroupId) :
    (s.claim g).pending = s.pending := rfl

@[simp] theorem State.unclaim_cc (s : State) (g : GroupId) : (s.unclaim g).cc = s.cc := rfl
@[simp] theorem State.unclaim_tb (s : State) (g : GroupId) : (s.unclaim g).tb = s.tb := rfl
@[simp] theorem State.unclaim_tau (s : State) (g : GroupId) : (s.unclaim g).tau = s.tau := rfl
@[simp] theorem State.unclaim_profiles (s : State) (g : GroupId) :
    (s.unclaim g).profiles = s.profiles := rfl
@[simp] theorem State.unclaim_ct (s : State) (g : GroupId) : (s.unclaim g).ct = s.ct := rfl
@[simp] theorem State.unclaim_agr (s : State) (g : GroupId) : (s.unclaim g).agr = s.agr := rfl
@[simp] theorem State.unclaim_ru (s : State) (g : GroupId) : (s.unclaim g).ru = s.ru := rfl
@[simp] theorem State.unclaim_jw (s : State) (g : GroupId) : (s.unclaim g).jw = s.jw := rfl
@[simp] theorem State.unclaim_afl (s : State) (g : GroupId) : (s.unclaim g).afl = s.afl := rfl
@[simp] theorem State.unclaim_resets (s : State) (g : GroupId) :
    (s.unclaim g).resets = s.resets := rfl
@[simp] theorem State.unclaim_pending (s : State) (g : GroupId) :
    (s.unclaim g).pending = s.pending := rfl

@[simp] theorem State.groupSet_cc (s : State) (q : GroupRequest) : (s.groupSet q).cc = s.cc := rfl
@[simp] theorem State.groupSet_tb (s : State) (q : GroupRequest) : (s.groupSet q).tb = s.tb := rfl
@[simp] theorem State.groupSet_tau (s : State) (q : GroupRequest) :
    (s.groupSet q).tau = s.tau := rfl
@[simp] theorem State.groupSet_profiles (s : State) (q : GroupRequest) :
    (s.groupSet q).profiles = s.profiles := rfl
@[simp] theorem State.groupSet_ct (s : State) (q : GroupRequest) : (s.groupSet q).ct = s.ct := rfl
@[simp] theorem State.groupSet_agr (s : State) (q : GroupRequest) :
    (s.groupSet q).agr = s.agr := rfl
@[simp] theorem State.groupSet_ru (s : State) (q : GroupRequest) : (s.groupSet q).ru = s.ru := rfl
@[simp] theorem State.groupSet_jw (s : State) (q : GroupRequest) : (s.groupSet q).jw = s.jw := rfl
@[simp] theorem State.groupSet_afl (s : State) (q : GroupRequest) :
    (s.groupSet q).afl = s.afl := rfl
@[simp] theorem State.groupSet_resets (s : State) (q : GroupRequest) :
    (s.groupSet q).resets = s.resets := rfl
@[simp] theorem State.groupSet_pending (s : State) (q : GroupRequest) :
    (s.groupSet q).pending = s.pending := rfl

@[simp] theorem State.agreeSet_cc (s : State) (q : AgreeRequest) :
    (s.agreeSet q).cc = s.cc := by unfold State.agreeSet; repeat (first | rfl | simp | split)
@[simp] theorem State.agreeSet_tb (s : State) (q : AgreeRequest) :
    (s.agreeSet q).tb = s.tb := by unfold State.agreeSet; repeat (first | rfl | simp | split)
@[simp] theorem State.agreeSet_groups (s : State) (q : AgreeRequest) :
    (s.agreeSet q).groups = s.groups := by unfold State.agreeSet; repeat (first | rfl | simp | split)
@[simp] theorem State.agreeSet_profiles (s : State) (q : AgreeRequest) :
    (s.agreeSet q).profiles = s.profiles := by unfold State.agreeSet; repeat (first | rfl | simp | split)
@[simp] theorem State.agreeSet_ct (s : State) (q : AgreeRequest) :
    (s.agreeSet q).ct = s.ct := by unfold State.agreeSet; repeat (first | rfl | simp | split)
@[simp] theorem State.agreeSet_ru (s : State) (q : AgreeRequest) :
    (s.agreeSet q).ru = s.ru := by unfold State.agreeSet; repeat (first | rfl | simp | split)
@[simp] theorem State.agreeSet_jw (s : State) (q : AgreeRequest) :
    (s.agreeSet q).jw = s.jw := by unfold State.agreeSet; repeat (first | rfl | simp | split)
@[simp] theorem State.agreeSet_afl (s : State) (q : AgreeRequest) :
    (s.agreeSet q).afl = s.afl := by unfold State.agreeSet; repeat (first | rfl | simp | split)
@[simp] theorem State.agreeSet_resets (s : State) (q : AgreeRequest) :
    (s.agreeSet q).resets = s.resets := by unfold State.agreeSet; repeat (first | rfl | simp | split)
@[simp] theorem State.agreeSet_pending (s : State) (q : AgreeRequest) :
    (s.agreeSet q).pending = s.pending := by unfold State.agreeSet; repeat (first | rfl | simp | split)

@[simp] theorem State.accumulate_cc (s : State) (r : ChargeRecord) :
    (s.accumulate r).cc = s.cc := rfl
@[simp] theorem State.accumulate_tb (s : State) (r : ChargeRecord) :
    (s.accumulate r).tb = s.tb := rfl
@[simp] theorem State.accumulate_tau (s : State) (r : ChargeRecord) :
    (s.accumulate r).tau = s.tau := rfl
@[simp] theorem State.accumulate_groups (s : State) (r : ChargeRecord) :
    (s.accumulate r).groups = s.groups := rfl
@[simp] theorem State.accumulate_profiles (s : State) (r : ChargeRecord) :
    (s.accumulate r).profiles = s.profiles := rfl
@[simp] theorem State.accumulate_ct (s : State) (r : ChargeRecord) :
    (s.accumulate r).ct = s.ct := rfl
@[simp] theorem State.accumulate_agr (s : State) (r : ChargeRecord) :
    (s.accumulate r).agr = s.agr := rfl
@[simp] theorem State.accumulate_jw (s : State) (r : ChargeRecord) :
    (s.accumulate r).jw = s.jw := rfl
@[simp] theorem State.accumulate_afl (s : State) (r : ChargeRecord) :
    (s.accumulate r).afl = s.afl := rfl
@[simp] theorem State.accumulate_resets (s : State) (r : ChargeRecord) :
    (s.accumulate r).resets = s.resets := rfl
@[simp] theorem State.accumulate_pending (s : State) (r : ChargeRecord) :
    (s.accumulate r).pending = s.pending := rfl

@[simp] theorem State.closeEvent_cc (s : State) :
    (s.closeEvent).cc = s.cc := by simp [State.closeEvent]
@[simp] theorem State.closeEvent_tb (s : State) :
    (s.closeEvent).tb = s.tb := by simp [State.closeEvent]
@[simp] theorem State.closeEvent_tau (s : State) :
    (s.closeEvent).tau = s.tau := by simp [State.closeEvent]
@[simp] theorem State.closeEvent_groups (s : State) :
    (s.closeEvent).groups = s.groups := by simp [State.closeEvent]
@[simp] theorem State.closeEvent_profiles (s : State) :
    (s.closeEvent).profiles = s.profiles := by simp [State.closeEvent]
@[simp] theorem State.closeEvent_ct (s : State) :
    (s.closeEvent).ct = s.ct := by simp [State.closeEvent]
@[simp] theorem State.closeEvent_afl (s : State) :
    (s.closeEvent).afl = s.afl := by simp [State.closeEvent]
@[simp] theorem State.closeEvent_resets (s : State) :
    (s.closeEvent).resets = s.resets := by simp [State.closeEvent]
@[simp] theorem State.closeEvent_pending (s : State) :
    (s.closeEvent).pending = s.pending := by simp [State.closeEvent]

@[simp] theorem State.closePeriod_tau (s : State) :
    (s.closePeriod).tau = s.tau := by simp [State.closePeriod]
@[simp] theorem State.closePeriod_groups (s : State) :
    (s.closePeriod).groups = s.groups := by simp [State.closePeriod]
@[simp] theorem State.closePeriod_profiles (s : State) :
    (s.closePeriod).profiles = s.profiles := by simp [State.closePeriod]
@[simp] theorem State.closePeriod_ct (s : State) :
    (s.closePeriod).ct = s.ct := by simp [State.closePeriod]
@[simp] theorem State.closePeriod_afl (s : State) :
    (s.closePeriod).afl = s.afl := by simp [State.closePeriod]
@[simp] theorem State.closePeriod_resets (s : State) :
    (s.closePeriod).resets = s.resets := by simp [State.closePeriod]
@[simp] theorem State.closePeriod_pending (s : State) :
    (s.closePeriod).pending = s.pending := by simp [State.closePeriod]

@[simp] theorem State.freeContext_cc (s : State) (i : CtxId) :
    (s.freeContext i).cc = s.cc := by unfold State.freeContext; repeat (first | rfl | simp | split)
@[simp] theorem State.freeContext_tb (s : State) (i : CtxId) :
    (s.freeContext i).tb = s.tb := by unfold State.freeContext; repeat (first | rfl | simp | split)
@[simp] theorem State.freeContext_tau (s : State) (i : CtxId) :
    (s.freeContext i).tau = s.tau := by unfold State.freeContext; repeat (first | rfl | simp | split)
@[simp] theorem State.freeContext_profiles (s : State) (i : CtxId) :
    (s.freeContext i).profiles = s.profiles := by unfold State.freeContext; repeat (first | rfl | simp | split)
@[simp] theorem State.freeContext_agr (s : State) (i : CtxId) :
    (s.freeContext i).agr = s.agr := by unfold State.freeContext; repeat (first | rfl | simp | split)
@[simp] theorem State.freeContext_ru (s : State) (i : CtxId) :
    (s.freeContext i).ru = s.ru := by unfold State.freeContext; repeat (first | rfl | simp | split)
@[simp] theorem State.freeContext_jw (s : State) (i : CtxId) :
    (s.freeContext i).jw = s.jw := by unfold State.freeContext; repeat (first | rfl | simp | split)
@[simp] theorem State.freeContext_afl (s : State) (i : CtxId) :
    (s.freeContext i).afl = s.afl := by unfold State.freeContext; repeat (first | rfl | simp | split)
@[simp] theorem State.freeContext_resets (s : State) (i : CtxId) :
    (s.freeContext i).resets = s.resets := by unfold State.freeContext; repeat (first | rfl | simp | split)
@[simp] theorem State.freeContext_pending (s : State) (i : CtxId) :
    (s.freeContext i).pending = s.pending := by unfold State.freeContext; repeat (first | rfl | simp | split)

@[simp] theorem State.chargeEvent_cc (s : State) (r : PendingRelease) :
    (s.chargeEvent r).cc = s.cc := by simp [State.chargeEvent]
@[simp] theorem State.chargeEvent_tb (s : State) (r : PendingRelease) :
    (s.chargeEvent r).tb = s.tb := by simp [State.chargeEvent]
@[simp] theorem State.chargeEvent_tau (s : State) (r : PendingRelease) :
    (s.chargeEvent r).tau = s.tau := by simp [State.chargeEvent]
@[simp] theorem State.chargeEvent_profiles (s : State) (r : PendingRelease) :
    (s.chargeEvent r).profiles = s.profiles := by simp [State.chargeEvent]
@[simp] theorem State.chargeEvent_agr (s : State) (r : PendingRelease) :
    (s.chargeEvent r).agr = s.agr := by simp [State.chargeEvent]
@[simp] theorem State.chargeEvent_afl (s : State) (r : PendingRelease) :
    (s.chargeEvent r).afl = s.afl := by simp [State.chargeEvent]
@[simp] theorem State.chargeEvent_resets (s : State) (r : PendingRelease) :
    (s.chargeEvent r).resets = s.resets := by simp [State.chargeEvent]
@[simp] theorem State.chargeEvent_pending (s : State) (r : PendingRelease) :
    (s.chargeEvent r).pending = s.pending := by simp [State.chargeEvent]

@[simp] theorem State.chargeRelease_tau (s : State) (r : PendingRelease) :
    (s.chargeRelease r).tau = s.tau := by simp [State.chargeRelease]
@[simp] theorem State.chargeRelease_profiles (s : State) (r : PendingRelease) :
    (s.chargeRelease r).profiles = s.profiles := by simp [State.chargeRelease]
@[simp] theorem State.chargeRelease_agr (s : State) (r : PendingRelease) :
    (s.chargeRelease r).agr = s.agr := by simp [State.chargeRelease]
@[simp] theorem State.chargeRelease_afl (s : State) (r : PendingRelease) :
    (s.chargeRelease r).afl = s.afl := by simp [State.chargeRelease]
@[simp] theorem State.chargeRelease_resets (s : State) (r : PendingRelease) :
    (s.chargeRelease r).resets = s.resets := by simp [State.chargeRelease]
@[simp] theorem State.chargeRelease_pending (s : State) (r : PendingRelease) :
    (s.chargeRelease r).pending = s.pending := by simp [State.chargeRelease]

@[simp] theorem State.releaseUncharged_tau (s : State) (r : PendingRelease) :
    (s.releaseUncharged r).tau = s.tau := by unfold State.releaseUncharged; split <;> simp
@[simp] theorem State.releaseUncharged_profiles (s : State) (r : PendingRelease) :
    (s.releaseUncharged r).profiles = s.profiles := by unfold State.releaseUncharged; split <;> simp
@[simp] theorem State.releaseUncharged_agr (s : State) (r : PendingRelease) :
    (s.releaseUncharged r).agr = s.agr := by unfold State.releaseUncharged; split <;> simp
@[simp] theorem State.releaseUncharged_ru (s : State) (r : PendingRelease) :
    (s.releaseUncharged r).ru = s.ru := by unfold State.releaseUncharged; split <;> simp
@[simp] theorem State.releaseUncharged_jw (s : State) (r : PendingRelease) :
    (s.releaseUncharged r).jw = s.jw := by unfold State.releaseUncharged; split <;> simp
@[simp] theorem State.releaseUncharged_resets (s : State) (r : PendingRelease) :
    (s.releaseUncharged r).resets = s.resets := by unfold State.releaseUncharged; split <;> simp
@[simp] theorem State.releaseUncharged_pending (s : State) (r : PendingRelease) :
    (s.releaseUncharged r).pending = s.pending := by unfold State.releaseUncharged; split <;> simp

@[simp] theorem State.clearChange_cc (s : State) (c : Change) :
    (s.clearChange c).cc = s.cc := by unfold State.clearChange; split <;> rfl
@[simp] theorem State.clearChange_tb (s : State) (c : Change) :
    (s.clearChange c).tb = s.tb := by unfold State.clearChange; split <;> rfl
@[simp] theorem State.clearChange_tau (s : State) (c : Change) :
    (s.clearChange c).tau = s.tau := by unfold State.clearChange; split <;> rfl
@[simp] theorem State.clearChange_profiles (s : State) (c : Change) :
    (s.clearChange c).profiles = s.profiles := by unfold State.clearChange; split <;> rfl
@[simp] theorem State.clearChange_agr (s : State) (c : Change) :
    (s.clearChange c).agr = s.agr := by unfold State.clearChange; split <;> rfl
@[simp] theorem State.clearChange_ru (s : State) (c : Change) :
    (s.clearChange c).ru = s.ru := by unfold State.clearChange; split <;> rfl
@[simp] theorem State.clearChange_jw (s : State) (c : Change) :
    (s.clearChange c).jw = s.jw := by unfold State.clearChange; split <;> rfl
@[simp] theorem State.clearChange_afl (s : State) (c : Change) :
    (s.clearChange c).afl = s.afl := by unfold State.clearChange; split <;> rfl
@[simp] theorem State.clearChange_resets (s : State) (c : Change) :
    (s.clearChange c).resets = s.resets := by unfold State.clearChange; split <;> rfl
@[simp] theorem State.clearChange_pending (s : State) (c : Change) :
    (s.clearChange c).pending = s.pending := by unfold State.clearChange; split <;> rfl

@[simp] theorem State.refuseSeize_tau (s : State) (k : ResultCode) (a : Analysis) (b : Option Band) :
    (s.refuseSeize k a b).tau = s.tau := by simp [State.refuseSeize]
@[simp] theorem State.refuseSeize_groups (s : State) (k : ResultCode) (a : Analysis) (b : Option Band) :
    (s.refuseSeize k a b).groups = s.groups := by simp [State.refuseSeize]
@[simp] theorem State.refuseSeize_profiles (s : State) (k : ResultCode) (a : Analysis) (b : Option Band) :
    (s.refuseSeize k a b).profiles = s.profiles := by simp [State.refuseSeize]
@[simp] theorem State.refuseSeize_ct (s : State) (k : ResultCode) (a : Analysis) (b : Option Band) :
    (s.refuseSeize k a b).ct = s.ct := by simp [State.refuseSeize]
@[simp] theorem State.refuseSeize_agr (s : State) (k : ResultCode) (a : Analysis) (b : Option Band) :
    (s.refuseSeize k a b).agr = s.agr := by simp [State.refuseSeize]
@[simp] theorem State.refuseSeize_ru (s : State) (k : ResultCode) (a : Analysis) (b : Option Band) :
    (s.refuseSeize k a b).ru = s.ru := by simp [State.refuseSeize]
@[simp] theorem State.refuseSeize_jw (s : State) (k : ResultCode) (a : Analysis) (b : Option Band) :
    (s.refuseSeize k a b).jw = s.jw := by simp [State.refuseSeize]
@[simp] theorem State.refuseSeize_afl (s : State) (k : ResultCode) (a : Analysis) (b : Option Band) :
    (s.refuseSeize k a b).afl = s.afl := by simp [State.refuseSeize]
@[simp] theorem State.refuseSeize_resets (s : State) (k : ResultCode) (a : Analysis) (b : Option Band) :
    (s.refuseSeize k a b).resets = s.resets := by simp [State.refuseSeize]
@[simp] theorem State.refuseSeize_pending (s : State) (k : ResultCode) (a : Analysis) (b : Option Band) :
    (s.refuseSeize k a b).pending = s.pending := by simp [State.refuseSeize]

@[simp] theorem State.admitSeizure_tau (s : State) (x : SeizeTerms) (c : Choice) (l : TariffLine) (q : Nat) (ti : Tier) (as : List Attempt) :
    (s.admitSeizure x c l q ti as).tau = s.tau := by unfold State.admitSeizure; split <;> simp
@[simp] theorem State.admitSeizure_profiles (s : State) (x : SeizeTerms) (c : Choice) (l : TariffLine) (q : Nat) (ti : Tier) (as : List Attempt) :
    (s.admitSeizure x c l q ti as).profiles = s.profiles := by unfold State.admitSeizure; split <;> simp
@[simp] theorem State.admitSeizure_agr (s : State) (x : SeizeTerms) (c : Choice) (l : TariffLine) (q : Nat) (ti : Tier) (as : List Attempt) :
    (s.admitSeizure x c l q ti as).agr = s.agr := by unfold State.admitSeizure; split <;> simp
@[simp] theorem State.admitSeizure_ru (s : State) (x : SeizeTerms) (c : Choice) (l : TariffLine) (q : Nat) (ti : Tier) (as : List Attempt) :
    (s.admitSeizure x c l q ti as).ru = s.ru := by unfold State.admitSeizure; split <;> simp
@[simp] theorem State.admitSeizure_jw (s : State) (x : SeizeTerms) (c : Choice) (l : TariffLine) (q : Nat) (ti : Tier) (as : List Attempt) :
    (s.admitSeizure x c l q ti as).jw = s.jw := by unfold State.admitSeizure; split <;> simp
@[simp] theorem State.admitSeizure_afl (s : State) (x : SeizeTerms) (c : Choice) (l : TariffLine) (q : Nat) (ti : Tier) (as : List Attempt) :
    (s.admitSeizure x c l q ti as).afl = s.afl := by unfold State.admitSeizure; split <;> simp
@[simp] theorem State.admitSeizure_resets (s : State) (x : SeizeTerms) (c : Choice) (l : TariffLine) (q : Nat) (ti : Tier) (as : List Attempt) :
    (s.admitSeizure x c l q ti as).resets = s.resets := by unfold State.admitSeizure; split <;> simp
@[simp] theorem State.admitSeizure_pending (s : State) (x : SeizeTerms) (c : Choice) (l : TariffLine) (q : Nat) (ti : Tier) (as : List Attempt) :
    (s.admitSeizure x c l q ti as).pending = s.pending := by unfold State.admitSeizure; split <;> simp

@[simp] theorem State.moveContext_cc (s : State) (i : CtxId) (c : Choice) (l : TariffLine) (q : Nat) (ti : Tier) :
    (s.moveContext i c l q ti).cc = s.cc := by unfold State.moveContext; repeat (first | rfl | simp | split)
@[simp] theorem State.moveContext_tb (s : State) (i : CtxId) (c : Choice) (l : TariffLine) (q : Nat) (ti : Tier) :
    (s.moveContext i c l q ti).tb = s.tb := by unfold State.moveContext; repeat (first | rfl | simp | split)
@[simp] theorem State.moveContext_tau (s : State) (i : CtxId) (c : Choice) (l : TariffLine) (q : Nat) (ti : Tier) :
    (s.moveContext i c l q ti).tau = s.tau := by unfold State.moveContext; repeat (first | rfl | simp | split)
@[simp] theorem State.moveContext_profiles (s : State) (i : CtxId) (c : Choice) (l : TariffLine) (q : Nat) (ti : Tier) :
    (s.moveContext i c l q ti).profiles = s.profiles := by unfold State.moveContext; repeat (first | rfl | simp | split)
@[simp] theorem State.moveContext_agr (s : State) (i : CtxId) (c : Choice) (l : TariffLine) (q : Nat) (ti : Tier) :
    (s.moveContext i c l q ti).agr = s.agr := by unfold State.moveContext; repeat (first | rfl | simp | split)
@[simp] theorem State.moveContext_ru (s : State) (i : CtxId) (c : Choice) (l : TariffLine) (q : Nat) (ti : Tier) :
    (s.moveContext i c l q ti).ru = s.ru := by unfold State.moveContext; repeat (first | rfl | simp | split)
@[simp] theorem State.moveContext_jw (s : State) (i : CtxId) (c : Choice) (l : TariffLine) (q : Nat) (ti : Tier) :
    (s.moveContext i c l q ti).jw = s.jw := by unfold State.moveContext; repeat (first | rfl | simp | split)
@[simp] theorem State.moveContext_afl (s : State) (i : CtxId) (c : Choice) (l : TariffLine) (q : Nat) (ti : Tier) :
    (s.moveContext i c l q ti).afl = s.afl := by unfold State.moveContext; repeat (first | rfl | simp | split)
@[simp] theorem State.moveContext_resets (s : State) (i : CtxId) (c : Choice) (l : TariffLine) (q : Nat) (ti : Tier) :
    (s.moveContext i c l q ti).resets = s.resets := by unfold State.moveContext; repeat (first | rfl | simp | split)
@[simp] theorem State.moveContext_pending (s : State) (i : CtxId) (c : Choice) (l : TariffLine) (q : Nat) (ti : Tier) :
    (s.moveContext i c l q ti).pending = s.pending := by unfold State.moveContext; repeat (first | rfl | simp | split)

@[simp] theorem State.admitChoice_tau (s : State) (p : WalkFor) (c : Choice) (l : TariffLine) (q : Nat) (ti : Tier) (as : List Attempt) :
    (s.admitChoice p c l q ti as).tau = s.tau := by unfold State.admitChoice; split <;> simp
@[simp] theorem State.admitChoice_profiles (s : State) (p : WalkFor) (c : Choice) (l : TariffLine) (q : Nat) (ti : Tier) (as : List Attempt) :
    (s.admitChoice p c l q ti as).profiles = s.profiles := by unfold State.admitChoice; split <;> simp
@[simp] theorem State.admitChoice_agr (s : State) (p : WalkFor) (c : Choice) (l : TariffLine) (q : Nat) (ti : Tier) (as : List Attempt) :
    (s.admitChoice p c l q ti as).agr = s.agr := by unfold State.admitChoice; split <;> simp
@[simp] theorem State.admitChoice_ru (s : State) (p : WalkFor) (c : Choice) (l : TariffLine) (q : Nat) (ti : Tier) (as : List Attempt) :
    (s.admitChoice p c l q ti as).ru = s.ru := by unfold State.admitChoice; split <;> simp
@[simp] theorem State.admitChoice_jw (s : State) (p : WalkFor) (c : Choice) (l : TariffLine) (q : Nat) (ti : Tier) (as : List Attempt) :
    (s.admitChoice p c l q ti as).jw = s.jw := by unfold State.admitChoice; split <;> simp
@[simp] theorem State.admitChoice_afl (s : State) (p : WalkFor) (c : Choice) (l : TariffLine) (q : Nat) (ti : Tier) (as : List Attempt) :
    (s.admitChoice p c l q ti as).afl = s.afl := by unfold State.admitChoice; split <;> simp
@[simp] theorem State.admitChoice_resets (s : State) (p : WalkFor) (c : Choice) (l : TariffLine) (q : Nat) (ti : Tier) (as : List Attempt) :
    (s.admitChoice p c l q ti as).resets = s.resets := by unfold State.admitChoice; split <;> simp
@[simp] theorem State.admitChoice_pending (s : State) (p : WalkFor) (c : Choice) (l : TariffLine) (q : Nat) (ti : Tier) (as : List Attempt) :
    (s.admitChoice p c l q ti as).pending = s.pending := by unfold State.admitChoice; split <;> simp

@[simp] theorem State.endCrankback_tau (s : State) (i : CtxId) (k : ResultCode) (as : List Attempt) :
    (s.endCrankback i k as).tau = s.tau := by simp [State.endCrankback]
@[simp] theorem State.endCrankback_profiles (s : State) (i : CtxId) (k : ResultCode) (as : List Attempt) :
    (s.endCrankback i k as).profiles = s.profiles := by simp [State.endCrankback]
@[simp] theorem State.endCrankback_agr (s : State) (i : CtxId) (k : ResultCode) (as : List Attempt) :
    (s.endCrankback i k as).agr = s.agr := by simp [State.endCrankback]
@[simp] theorem State.endCrankback_ru (s : State) (i : CtxId) (k : ResultCode) (as : List Attempt) :
    (s.endCrankback i k as).ru = s.ru := by simp [State.endCrankback]
@[simp] theorem State.endCrankback_jw (s : State) (i : CtxId) (k : ResultCode) (as : List Attempt) :
    (s.endCrankback i k as).jw = s.jw := by simp [State.endCrankback]
@[simp] theorem State.endCrankback_afl (s : State) (i : CtxId) (k : ResultCode) (as : List Attempt) :
    (s.endCrankback i k as).afl = s.afl := by simp [State.endCrankback]
@[simp] theorem State.endCrankback_resets (s : State) (i : CtxId) (k : ResultCode) (as : List Attempt) :
    (s.endCrankback i k as).resets = s.resets := by simp [State.endCrankback]
@[simp] theorem State.endCrankback_pending (s : State) (i : CtxId) (k : ResultCode) (as : List Attempt) :
    (s.endCrankback i k as).pending = s.pending := by simp [State.endCrankback]

@[simp] theorem State.walkExhausted_tau (s : State) (p : WalkFor) (as : List Attempt) :
    (s.walkExhausted p as).tau = s.tau := by unfold State.walkExhausted; split <;> simp
@[simp] theorem State.walkExhausted_profiles (s : State) (p : WalkFor) (as : List Attempt) :
    (s.walkExhausted p as).profiles = s.profiles := by unfold State.walkExhausted; split <;> simp
@[simp] theorem State.walkExhausted_agr (s : State) (p : WalkFor) (as : List Attempt) :
    (s.walkExhausted p as).agr = s.agr := by unfold State.walkExhausted; split <;> simp
@[simp] theorem State.walkExhausted_ru (s : State) (p : WalkFor) (as : List Attempt) :
    (s.walkExhausted p as).ru = s.ru := by unfold State.walkExhausted; split <;> simp
@[simp] theorem State.walkExhausted_jw (s : State) (p : WalkFor) (as : List Attempt) :
    (s.walkExhausted p as).jw = s.jw := by unfold State.walkExhausted; split <;> simp
@[simp] theorem State.walkExhausted_afl (s : State) (p : WalkFor) (as : List Attempt) :
    (s.walkExhausted p as).afl = s.afl := by unfold State.walkExhausted; split <;> simp
@[simp] theorem State.walkExhausted_resets (s : State) (p : WalkFor) (as : List Attempt) :
    (s.walkExhausted p as).resets = s.resets := by unfold State.walkExhausted; split <;> simp
@[simp] theorem State.walkExhausted_pending (s : State) (p : WalkFor) (as : List Attempt) :
    (s.walkExhausted p as).pending = s.pending := by unfold State.walkExhausted; split <;> simp

@[simp] theorem State.walkOn_tb (s : State) (p : WalkFor) (a : List Attempt) (c : List Choice) :
    (s.walkOn p a c).tb = s.tb := rfl
@[simp] theorem State.walkOn_tau (s : State) (p : WalkFor) (a : List Attempt) (c : List Choice) :
    (s.walkOn p a c).tau = s.tau := rfl
@[simp] theorem State.walkOn_groups (s : State) (p : WalkFor) (a : List Attempt) (c : List Choice) :
    (s.walkOn p a c).groups = s.groups := rfl
@[simp] theorem State.walkOn_profiles (s : State) (p : WalkFor) (a : List Attempt) (c : List Choice) :
    (s.walkOn p a c).profiles = s.profiles := rfl
@[simp] theorem State.walkOn_ct (s : State) (p : WalkFor) (a : List Attempt) (c : List Choice) :
    (s.walkOn p a c).ct = s.ct := rfl
@[simp] theorem State.walkOn_agr (s : State) (p : WalkFor) (a : List Attempt) (c : List Choice) :
    (s.walkOn p a c).agr = s.agr := rfl
@[simp] theorem State.walkOn_ru (s : State) (p : WalkFor) (a : List Attempt) (c : List Choice) :
    (s.walkOn p a c).ru = s.ru := rfl
@[simp] theorem State.walkOn_jw (s : State) (p : WalkFor) (a : List Attempt) (c : List Choice) :
    (s.walkOn p a c).jw = s.jw := rfl
@[simp] theorem State.walkOn_afl (s : State) (p : WalkFor) (a : List Attempt) (c : List Choice) :
    (s.walkOn p a c).afl = s.afl := rfl
@[simp] theorem State.walkOn_resets (s : State) (p : WalkFor) (a : List Attempt) (c : List Choice) :
    (s.walkOn p a c).resets = s.resets := rfl
@[simp] theorem State.walkOn_pending (s : State) (p : WalkFor) (a : List Attempt) (c : List Choice) :
    (s.walkOn p a c).pending = s.pending := rfl

@[simp] theorem State.takeGroupExpiries_cc (s : State) :
    (s.takeGroupExpiries).cc = s.cc := by unfold State.takeGroupExpiries; simp only; split <;> rfl
@[simp] theorem State.takeGroupExpiries_tb (s : State) :
    (s.takeGroupExpiries).tb = s.tb := by unfold State.takeGroupExpiries; simp only; split <;> rfl
@[simp] theorem State.takeGroupExpiries_tau (s : State) :
    (s.takeGroupExpiries).tau = s.tau := by unfold State.takeGroupExpiries; simp only; split <;> rfl
@[simp] theorem State.takeGroupExpiries_profiles (s : State) :
    (s.takeGroupExpiries).profiles = s.profiles := by unfold State.takeGroupExpiries; simp only; split <;> rfl
@[simp] theorem State.takeGroupExpiries_ct (s : State) :
    (s.takeGroupExpiries).ct = s.ct := by unfold State.takeGroupExpiries; simp only; split <;> rfl
@[simp] theorem State.takeGroupExpiries_agr (s : State) :
    (s.takeGroupExpiries).agr = s.agr := by unfold State.takeGroupExpiries; simp only; split <;> rfl
@[simp] theorem State.takeGroupExpiries_ru (s : State) :
    (s.takeGroupExpiries).ru = s.ru := by unfold State.takeGroupExpiries; simp only; split <;> rfl
@[simp] theorem State.takeGroupExpiries_jw (s : State) :
    (s.takeGroupExpiries).jw = s.jw := by unfold State.takeGroupExpiries; simp only; split <;> rfl
@[simp] theorem State.takeGroupExpiries_resets (s : State) :
    (s.takeGroupExpiries).resets = s.resets := by unfold State.takeGroupExpiries; simp only; split <;> rfl
@[simp] theorem State.takeGroupExpiries_pending (s : State) :
    (s.takeGroupExpiries).pending = s.pending := by unfold State.takeGroupExpiries; simp only; split <;> rfl

@[simp] theorem State.takeOverdueExpiries_cc (s : State) :
    (s.takeOverdueExpiries).cc = s.cc := by unfold State.takeOverdueExpiries; simp only; split <;> rfl
@[simp] theorem State.takeOverdueExpiries_tb (s : State) :
    (s.takeOverdueExpiries).tb = s.tb := by unfold State.takeOverdueExpiries; simp only; split <;> rfl
@[simp] theorem State.takeOverdueExpiries_tau (s : State) :
    (s.takeOverdueExpiries).tau = s.tau := by unfold State.takeOverdueExpiries; simp only; split <;> rfl
@[simp] theorem State.takeOverdueExpiries_groups (s : State) :
    (s.takeOverdueExpiries).groups = s.groups := by unfold State.takeOverdueExpiries; simp only; split <;> rfl
@[simp] theorem State.takeOverdueExpiries_profiles (s : State) :
    (s.takeOverdueExpiries).profiles = s.profiles := by unfold State.takeOverdueExpiries; simp only; split <;> rfl
@[simp] theorem State.takeOverdueExpiries_agr (s : State) :
    (s.takeOverdueExpiries).agr = s.agr := by unfold State.takeOverdueExpiries; simp only; split <;> rfl
@[simp] theorem State.takeOverdueExpiries_ru (s : State) :
    (s.takeOverdueExpiries).ru = s.ru := by unfold State.takeOverdueExpiries; simp only; split <;> rfl
@[simp] theorem State.takeOverdueExpiries_jw (s : State) :
    (s.takeOverdueExpiries).jw = s.jw := by unfold State.takeOverdueExpiries; simp only; split <;> rfl
@[simp] theorem State.takeOverdueExpiries_resets (s : State) :
    (s.takeOverdueExpiries).resets = s.resets := by unfold State.takeOverdueExpiries; simp only; split <;> rfl
@[simp] theorem State.takeOverdueExpiries_pending (s : State) :
    (s.takeOverdueExpiries).pending = s.pending := by unfold State.takeOverdueExpiries; simp only; split <;> rfl

@[simp] theorem State.advanceTick_cc (s : State) : (s.advanceTick).cc = s.cc := rfl
@[simp] theorem State.advanceTick_tau (s : State) : (s.advanceTick).tau = s.tau := rfl
@[simp] theorem State.advanceTick_groups (s : State) : (s.advanceTick).groups = s.groups := rfl
@[simp] theorem State.advanceTick_profiles (s : State) :
    (s.advanceTick).profiles = s.profiles := rfl
@[simp] theorem State.advanceTick_agr (s : State) : (s.advanceTick).agr = s.agr := rfl
@[simp] theorem State.advanceTick_ru (s : State) : (s.advanceTick).ru = s.ru := rfl
@[simp] theorem State.advanceTick_jw (s : State) : (s.advanceTick).jw = s.jw := rfl
@[simp] theorem State.advanceTick_afl (s : State) : (s.advanceTick).afl = s.afl := rfl
@[simp] theorem State.advanceTick_resets (s : State) : (s.advanceTick).resets = s.resets := rfl
@[simp] theorem State.advanceTick_pending (s : State) : (s.advanceTick).pending = s.pending := rfl

end Sys2Proof.Machine
end

