-- ==== Sys2Proof/Laws/Ops.lean ====
section
/-! SUPPORT. What each operation of Ops, of the attention and of the Chain Controller can do, said once. -/

namespace Sys2Proof.Machine

/-! ## Poll counting and the states -/

/-- Settling the poll counter keeps it while it counts and makes it 0 otherwise, and does nothing else. -/
theorem State.settlePoll_eq (s : State) : s.settlePoll = { s with
    tb := { s.tb with pollCounter := if s.pollCounting then s.tb.pollCounter else 0 } } := by
  unfold State.settlePoll
  split <;> simp_all

@[simp] theorem State.settlePoll_pollCounting (s : State) :
    s.settlePoll.pollCounting = s.pollCounting := by
  rw [State.settlePoll_eq]; rfl

/-- Settling again changes nothing. -/
@[simp] theorem State.settlePoll_settlePoll (s : State) :
    s.settlePoll.settlePoll = s.settlePoll := by
  rw [State.settlePoll_eq s.settlePoll, State.settlePoll_pollCounting]
  rw [State.settlePoll_eq s]
  cases s.pollCounting <;> rfl

/-- Settling makes the poll counter sound again as long as it was in range while counting. -/
theorem State.settlePoll_pollSound (s : State)
    (h : s.pollCounting = true → s.tb.pollCounter < s.cc.anchor.pollPeriod) :
    s.settlePoll.PollSound := by
  constructor
  · intro hc
    simp only [State.settlePoll_pollCounting] at hc
    simpa [State.settlePoll_eq, hc] using h hc
  · intro hc
    simp only [State.settlePoll_pollCounting] at hc
    simp [State.settlePoll_eq, hc]

/-! ## Requests and register writes -/

/-- The model's test for a request in hand is the statement's. -/
theorem State.requestInHand_eq_some {s : State} {k : RequestKind} {c : FetchedCell} :
    s.requestInHand k = some c ↔ s.InHand k c := by
  unfold State.requestInHand State.InHand
  split
  · rename_i h; simp [h, Option.filter_eq_some_iff]
  · rename_i h
    simp only [reduceCtorEq, false_iff]
    rintro ⟨a, b, _⟩
    exact h ⟨a, b⟩

/-- A request in hand is carried out. -/
theorem onRequest_of_inHand {k : RequestKind} {c : FetchedCell} {s : State} (h : s.InHand k c)
    (f : FetchedCell → State → State) : onRequest k f s = .next (f c s) := by
  simp [onRequest, State.requestInHand_eq_some.mpr h]

/-- The step of a request either carries it out on the cell in hand or changes nothing. -/
theorem onRequest_cases (k : RequestKind) (f : FetchedCell → State → State) (s : State) :
    (∃ c, s.InHand k c ∧ onRequest k f s = .next (f c s))
      ∨ ((∀ c, ¬ s.InHand k c) ∧ onRequest k f s = .next s) := by
  cases h : s.requestInHand k with
  | some c =>
    exact .inl ⟨c, State.requestInHand_eq_some.mp h, by simp [onRequest, h]⟩
  | none =>
    refine .inr ⟨fun c hc => ?_, by simp [onRequest, h]⟩
    simp [State.requestInHand_eq_some.mpr hc] at h

/-- A register write is taken exactly when no reset is held. -/
theorem onRegisterWrite_cases (f : State → State) (s : State) :
    (s.inReset = true ∧ onRegisterWrite f s = .next s)
      ∨ (s.inReset = false ∧ onRegisterWrite f s = .next (f s)) := by
  unfold onRegisterWrite
  cases h : s.inReset <;> simp

/-! ## The Chain Controller -/

/-- A completed request goes to WORKING with the write of its result area in flight. -/
theorem State.complete_eq (k : ResultCode) (fields : List Field) (s : State) :
    s.complete k fields = State.settlePoll { s with
      cc := { s.cc with
        state := .working, work := .completing,
        flight := some ⟨.resultWrite k, ⟨s.cc.held, 64, .write (layout 64 64 fields)⟩⟩ } } := by
  simp only [State.complete, State.enterChain, State.settlePoll_eq]
  rfl

/-- A chain fault stops the chain in FAULTED and offers the fault; position-valid, the held cell and
stop-pending stay. -/
theorem State.chainFault_eq (k : FaultKind) (a : Addr) (s : State) :
    s.chainFault k a = State.settlePoll { s with
      cc := { s.cc with state := .faulted, flight := none, cell := none, work := .none },
      afl := s.afl.offer k .chain a } := rfl

/-- Entering IDLE drops the cell and clears stop-pending and nudge-seen. -/
theorem State.chainIdle_eq (s : State) :
    s.chainIdle = State.settlePoll { s with
      cc := { s.cc with
        state := .idle, stopPending := false, nudgeSeen := false, flight := none, cell := none,
        work := .none } } := rfl

/-- The link read is in flight and the chain in FETCHING. -/
theorem State.readLink_eq (s : State) :
    s.readLink = State.settlePoll { s with
      cc := { s.cc with
        state := .fetching, flight := some ⟨.linkRead, ⟨s.cc.held, 0, .read 8⟩⟩ } } := by
  simp only [State.readLink, State.enterChain, State.issueChain, State.settlePoll_eq]
  rfl

/-- The anchor read is in flight and the chain in FETCHING. -/
theorem State.readAnchor_eq (s : State) :
    s.readAnchor = State.settlePoll { s with
      cc := { s.cc with
        state := .fetching,
        flight := some ⟨.anchorRead, ⟨s.anchorAddress, 0, .read 256⟩⟩ } } := by
  simp only [State.readAnchor, State.enterChain, State.issueChain, State.settlePoll_eq]
  rfl

/-- The cell fetch is in flight and the chain in FETCHING. -/
theorem State.fetchCell_eq (s : State) :
    s.fetchCell = State.settlePoll { s with
      cc := { s.cc with
        state := .fetching, flight := some ⟨.cellFetch, ⟨s.cc.held, 0, .read 64⟩⟩ } } := by
  simp only [State.fetchCell, State.enterChain, State.issueChain, State.settlePoll_eq]
  rfl

/-- The write of the engine half is in flight and the chain in FETCHING. -/
theorem State.writeRetireMark_eq (op : ChainOp) (mark : Addr) (s : State) :
    s.writeRetireMark op mark = State.settlePoll { s with
      cc := { s.cc with
        state := .fetching,
        flight := some ⟨op, ⟨s.anchorAddress, 128, .write (layout 128 12
          [⟨128, 8, mark.toNat⟩, ⟨136, 4, s.cc.retiredCount.toNat⟩])⟩⟩ } } := by
  simp only [State.writeRetireMark, State.enterChain, State.issueChain, State.settlePoll_eq]
  rfl

/-! ## Attention -/

/-- An update sets causes and enables, counts a message when the signal becomes asserted, and keeps
the capture. -/
theorem AttentionLogic.update_eq (a : AttentionLogic) (status enable : CauseBits) :
    a.update status enable = { a with
      status := status, enable := enable,
      interrupts := a.interrupts
        + (if a.signal = false ∧ (status &&& enable != 0) = true then 1 else 0) } := by
  unfold AttentionLogic.update
  cases h : a.signal <;> cases h2 : (status &&& enable != 0) <;>
    simp_all [AttentionLogic.signal]

@[simp] theorem AttentionLogic.update_status (a : AttentionLogic) (x y : CauseBits) :
    (a.update x y).status = x := by simp [AttentionLogic.update_eq]
@[simp] theorem AttentionLogic.update_enable (a : AttentionLogic) (x y : CauseBits) :
    (a.update x y).enable = y := by simp [AttentionLogic.update_eq]
@[simp] theorem AttentionLogic.update_capture (a : AttentionLogic) (x y : CauseBits) :
    (a.update x y).capture = a.capture := by simp [AttentionLogic.update_eq]
@[simp] theorem AttentionLogic.raise_status (a : AttentionLogic) (c : Cause) :
    (a.raise c).status = a.status ||| c.mask := by simp [AttentionLogic.raise]
@[simp] theorem AttentionLogic.raise_enable (a : AttentionLogic) (c : Cause) :
    (a.raise c).enable = a.enable := by simp [AttentionLogic.raise]
@[simp] theorem AttentionLogic.raise_capture (a : AttentionLogic) (c : Cause) :
    (a.raise c).capture = a.capture := by simp [AttentionLogic.raise]
@[simp] theorem AttentionLogic.offer_status (a : AttentionLogic) (k : FaultKind) (g : Agent)
    (x : Addr) : (a.offer k g x).status = a.status ||| Cause.fault.mask := by
  simp [AttentionLogic.offer]
@[simp] theorem AttentionLogic.offer_enable (a : AttentionLogic) (k : FaultKind) (g : Agent)
    (x : Addr) : (a.offer k g x).enable = a.enable := by simp [AttentionLogic.offer]
@[simp] theorem AttentionLogic.offer_capture (a : AttentionLogic) (k : FaultKind) (g : Agent)
    (x : Addr) : (a.offer k g x).capture = some (captureAfter k g x a.capture) := by
  simp [AttentionLogic.offer]

/-- Setting a cause that is set changes nothing: the signal cannot become asserted again. -/
theorem AttentionLogic.raise_raise (a : AttentionLogic) (c : Cause) :
    (a.raise c).raise c = a.raise c := by
  have h : ∀ b : AttentionLogic, b.status ||| c.mask = b.status → b.raise c = b := by
    intro b hb
    simp [AttentionLogic.raise, AttentionLogic.update, AttentionLogic.signal, hb]
  exact h _ (by rw [AttentionLogic.raise_status, BitVec.or_assoc, BitVec.or_self])

/-! ## The line cache -/

/-- Installation keeps at most 32 lines and adds the new one at the tail. -/
theorem installLine_eq (l : Line) (lines : List Line) :
    installLine l lines = (if 32 ≤ lines.length then lines.tail else lines) ++ [l] := rfl

theorem installLine_length (l : Line) (lines : List Line) (h : lines.length ≤ 32) :
    (installLine l lines).length ≤ 32 := by
  rw [installLine_eq]
  split <;> simp <;> omega

@[simp] theorem State.abandonFill_lines (s : State) : s.abandonFill.tau.lines = s.tau.lines := rfl
@[simp] theorem State.startFill_lines (s : State) (t : Tag) (r : Requester) :
    (s.startFill t r).tau.lines = s.tau.lines := rfl

/-- A miss: no held line has the tag. -/
theorem State.lookup_eq_none {s : State} {t : Tag} :
    s.lookup t = none ↔ ∀ l ∈ s.tau.lines, l.tag ≠ t := by
  simp [State.lookup]

end Sys2Proof.Machine
end

