-- ==== Sys2Proof/Laws/Journal.lean ====
section
/-! SUPPORT. What each shared operation of the Journal Writer can do, said once. -/

namespace Sys2Proof.Machine

/-- A JW that is not in RUNNING or has an access in flight takes no step. -/
theorem State.journalAdvance_of_busy {s : State} (h : s.jw.state ≠ .running ∨ s.jw.flight ≠ none) :
    s.journalAdvance = s := by
  unfold State.journalAdvance
  rw [if_neg]
  rintro ⟨a, b⟩
  exact h.elim (· a) (· b)

/-- The next step of JW starts an access, and may make the close pending or move the cursor. -/
theorem State.journalAdvance_eq (s : State) : s.journalAdvance = { s with
    jw := { s.jw with
      close := s.journalAdvance.jw.close, cursor := s.journalAdvance.jw.cursor,
      flight := s.journalAdvance.jw.flight } } := by
  unfold State.journalAdvance
  split
  · split
    · rfl
    · rfl
    · split
      · rfl
      · rfl
      · split
        · rfl
        · split <;> rfl
  · rfl

@[simp] theorem State.journalAdvance_state (s : State) :
    s.journalAdvance.jw.state = s.jw.state := by rw [s.journalAdvance_eq]
@[simp] theorem State.journalAdvance_hold (s : State) :
    s.journalAdvance.jw.hold = s.jw.hold := by rw [s.journalAdvance_eq]
@[simp] theorem State.journalAdvance_snapshot (s : State) :
    s.journalAdvance.jw.snapshot = s.jw.snapshot := by rw [s.journalAdvance_eq]
@[simp] theorem State.journalAdvance_slot (s : State) :
    s.journalAdvance.jw.slot = s.jw.slot := by rw [s.journalAdvance_eq]

/-- A placed entry stands at the tail of the hold store; JW may take its next step. -/
theorem State.placeHold_eq (e : HoldEntry) (s : State) : s.placeHold e = { s with
    jw := { s.jw with
      hold := s.jw.hold ++ [e],
      close := (s.placeHold e).jw.close, cursor := (s.placeHold e).jw.cursor,
      flight := (s.placeHold e).jw.flight } } :=
  State.journalAdvance_eq _

/-- A busy or stopped JW takes a placed entry without a step. -/
theorem State.placeHold_of_busy {s : State} (e : HoldEntry)
    (h : s.jw.state ≠ .running ∨ s.jw.flight ≠ none) :
    s.placeHold e = { s with jw := { s.jw with hold := s.jw.hold ++ [e] } } :=
  State.journalAdvance_of_busy h

/-- An opening puts JW in OPENING with the read of the map entry in flight. -/
theorem State.openPage_eq (reread : Bool) (s : State) :
    s.openPage reread = State.settlePoll { s with
      jw := { s.jw with
        state := .opening,
        flight := some ⟨.opening reread,
          ⟨s.cc.anchor.mapBase + BitVec.ofNat 64 (s.jw.mapIndex * 16), 0, .read 16⟩⟩ } } := by
  simp only [State.openPage, State.enterJournal, State.issueJournal, State.settlePoll_eq]
  rfl

/-- The completion of a period whose entry is at the head of the hold store. -/
theorem State.completePeriod_eq {s : State} (h : s.jw.atPeriodEnd = true) :
    s.completePeriod = { s with
      jw := { s.jw with
        hold := s.jw.hold.tail, snapshot := none, period := s.jw.period + 1,
        cursor := ⟨0, false⟩ },
      afl := s.afl.raise .period } := by
  unfold State.completePeriod State.raise
  cases hh : s.jw.hold with
  | nil => simp [JournalWriter.atPeriodEnd, hh] at h
  | cons e rest =>
    cases e with
    | charge r => simp [JournalWriter.atPeriodEnd, hh, HoldEntry.isPeriodEnd] at h
    | periodEnd p => rfl

/-- Step 4 of a close that ends no period sets PAGE alone. -/
theorem State.finishClose_full (s : State) :
    s.finishClose false = { s with afl := s.afl.raise .page } := rfl

/-- Step 4 of a PERIOD_END close whose entry is at the head of the hold store. -/
theorem State.finishClose_periodEnd {s : State} (h : s.jw.atPeriodEnd = true) :
    s.finishClose true = { s with
      jw := { s.jw with
        hold := s.jw.hold.tail, snapshot := none, period := s.jw.period + 1,
        cursor := ⟨0, false⟩ },
      afl := (s.afl.raise .page).raise .period } :=
  State.completePeriod_eq (s := s.raise .page) h

/-- The end of an access that is not the engine-half write takes no step of a close. -/
theorem State.finishCloseOf_of_ne {s : State} {f : Option JournalFlight}
    (h : ∀ b, f.map JournalFlight.op ≠ some (.engineWrite b)) : s.finishCloseOf f = s := by
  unfold State.finishCloseOf
  split
  · rename_i b _ ; exact absurd rfl (h b)
  · rfl

/-- A journal fault offers it, takes step 4 of a close that it ends, and stops JW in FAULTED. -/
theorem State.journalFault_eq (k : FaultKind) (f : JournalFlight) (s : State) :
    s.journalFault k f = State.settlePoll
      { (s.offerFault k .journal f.access.base).finishCloseOf (some f) with
        jw := { ((s.offerFault k .journal f.access.base).finishCloseOf (some f)).jw with
          state := .faulted, flight := none } } := rfl

/-- A RESTART leaves JW in IDLE with no access, no journal nudge-seen and no prefetch result. -/
theorem State.restartJournal_eq (s : State) :
    s.restartJournal = State.settlePoll { s.finishCloseOf s.jw.flight with
      jw := { (s.finishCloseOf s.jw.flight).jw with
        state := .idle, flight := none, nudgeSeen := false, prefetch := none,
        abandoned := abandonedAfter (s.finishCloseOf s.jw.flight).jw.abandoned
          ((s.finishCloseOf s.jw.flight).jw.flight.map JournalFlight.access) } } := rfl

/-- A valid anchor read restarts JW and opens the page of a map index below the new length. -/
theorem State.reopenJournal_eq (s : State) :
    s.reopenJournal = State.openPage false { s.restartJournal with
      jw := { s.restartJournal.jw with
        mapIndex := if s.restartJournal.jw.mapIndex ≥ s.restartJournal.cc.anchor.mapLength then 0
          else s.restartJournal.jw.mapIndex,
        anchor := s.restartJournal.anchorAddress } } := rfl

end Sys2Proof.Machine
end

