-- ==== Sys2Proof/Laws/Calls.lean ====
section
/-! SUPPORT. What each shared operation on groups, contexts, agreements and accounts can do, said once. -/

namespace Sys2Proof.Machine

/-! ## Groups -/

/-- A claim adds 1 to BUSY and to the seize counter of its group alone. -/
@[simp] theorem State.claim_group (s : State) (g h : GroupId) :
    (s.claim g).group h = if g = h then
      { s.group g with busy := (s.group g).busy + 1, seizes := (s.group g).seizes + 1 }
    else s.group h := by simp [State.claim]

/-- An unclaim takes 1 from BUSY of its group alone. -/
@[simp] theorem State.unclaim_group (s : State) (g h : GroupId) :
    (s.unclaim g).group h = if g = h then
      { s.group g with busy := (s.group g).busy - 1 } else s.group h := by simp [State.unclaim]

/-- An event of CM replaces one record and raises CHANGE where a change flag was set. -/
theorem State.monitor_eq (g : GroupId) (x : Group × Bool) (s : State) :
    s.monitor g x = { s with
      groups := s.groups.set g x.1,
      afl := if x.2 then s.afl.raise .change else s.afl } := by
  unfold State.monitor
  split <;> simp_all [State.setGroup, State.raise]

/-- A pressure event keeps BUSY and everything that GROUP_SET alone writes. -/
theorem Group.pressure_keeps (r : Group) (row : Vector Control 4) (now : Tick) :
    (r.pressure row now).1.busy = r.busy ∧ (r.pressure row now).1.provisioned = r.provisioned ∧
    (r.pressure row now).1.isOpen = r.isOpen ∧ (r.pressure row now).1.owner = r.owner ∧
    (r.pressure row now).1.profileSet = r.profileSet ∧ (r.pressure row now).1.mode = r.mode ∧
    (r.pressure row now).1.depth = r.depth ∧ (r.pressure row now).1.seizes = r.seizes := by
  unfold Group.pressure
  simp only
  split
  · simp [Group.pressureInHoldOff, Group.startQuiet]
  · simp [Group.beginMeasurement, Group.startQuiet]
  · split
    · split <;> simp [Group.capture, Group.stepUp, Group.adviseUp, Group.startQuiet,
        Group.copyControl]
    · simp [Group.capture, Group.startQuiet]

/-! ## Contexts -/

/-- Freeing a live context: FREE, the generation advanced, the tail of the free FIFO, BUSY of its group
down by 1. -/
theorem State.freeContext_of_live {s : State} {i : CtxId} {x : Context} (hx : s.context i = x)
    (h : x.live = true) :
    s.freeContext i = { s with
      groups := s.groups.set x.group
        { s.group x.group with busy := (s.group x.group).busy - 1 },
      ct := { s.ct with
        contexts := s.ct.contexts.set i x.freed, freeFifo := s.ct.freeFifo ++ [i] } } := by
  subst hx
  simp only [State.freeContext, h, if_true]
  rfl

theorem State.freeContext_of_free {s : State} {i : CtxId} (h : (s.context i).live = false) :
    s.freeContext i = s := by
  simp [State.freeContext, h]

/-- An event tick that would lie before the reference is clamped to it. -/
theorem agedTick_of_lt {reference now : Tick} {age : Nat} (h : (now - reference).toNat < age) :
    agedTick reference now age = (reference, true) := if_pos h

theorem agedTick_of_le {reference now : Tick} {age : Nat} (h : age ≤ (now - reference).toNat) :
    agedTick reference now age = (now - BitVec.ofNat 32 age, false) := if_neg (Nat.not_lt.mpr h)

/-- The move of a crankback replaces one context and moves BUSY from its group to the group of the
choice. -/
theorem State.moveContext_of_live {s : State} {i : CtxId} (c : Choice) (line : TariffLine)
    (quote : Nat) (tier : Tier) (h : (s.context i).live = true) :
    s.moveContext i c line quote tier =
      ((s.setContext i { Context.freezeOwner s c line quote tier (s.context i) with
        crankbacks := (s.context i).crankbacks + 1 }).unclaim (s.context i).group).claim
          c.group := by
  simp [State.moveContext, h]

/-- The number of live contexts on a group after one context is replaced. -/
theorem State.callsOn_setContext (s : State) (i : CtxId) (c : Context) (g : GroupId) :
    (s.setContext i c).callsOn g
        + (if (s.context i).live && (s.context i).group == g then 1 else 0)
      = s.callsOn g + (if c.live && c.group == g then 1 else 0) := by
  have hi : i.val < s.ct.contexts.toList.length := by simp
  have hg : s.ct.contexts.toList[i.val] = s.context i := by simp [State.context]
  have hs : (s.setContext i c).ct.contexts.toList = s.ct.contexts.toList.set i c := by
    simp [State.setContext, Vector.toList_set]
  unfold State.callsOn
  rw [hs, List.countP_set hi, hg]
  have : (if ((s.context i).live && (s.context i).group == g) = true then 1 else 0)
      ≤ s.ct.contexts.toList.countP (fun c => c.live && c.group == g) := by
    split
    · rename_i h
      exact List.countP_pos_iff.mpr ⟨_, hg ▸ List.getElem_mem hi, h⟩
    · exact Nat.zero_le _
  omega

/-- Only a table of contexts decides how many calls are on a group. -/
theorem State.callsOn_congr {s t : State} (h : t.ct.contexts = s.ct.contexts) (g : GroupId) :
    t.callsOn g = s.callsOn g := by simp [State.callsOn, h]

/-! ## Agreements and accounts -/

/-- A saturating sum never exceeds its maximum. -/
theorem satAdd_le {limit total x : Nat} : satAdd limit total x ≤ limit := by
  unfold satAdd; split <;> omega

/-- A saturating sum is the sum brought down to the maximum. -/
theorem satAdd_eq_min (limit total x : Nat) : satAdd limit total x = min (total + x) limit := by
  unfold satAdd; split <;> omega

/-- A charge keeps both accounts in range. -/
theorem Account.addOut_inRange {a : Account} (h : a.InRange) (amount seconds : Nat) :
    (a.addOut amount seconds).InRange :=
  ⟨satAdd_le, h.receivable, satAdd_le, h.inSeconds, satAdd_le, h.inCalls⟩

theorem Account.addIn_inRange {a : Account} (h : a.InRange) (amount seconds : Nat) :
    (a.addIn amount seconds).InRange :=
  ⟨h.payable, satAdd_le, h.outSeconds, satAdd_le, h.outCalls, satAdd_le⟩

/-- Only the agreements decide the effective values. -/
theorem State.termSource_congr {s t : State} (h : t.agr = s.agr) (k : Term) (c : CarrierId) :
    t.termSource k c = s.termSource k c := by
  unfold State.termSource State.agreement
  rw [h]

end Sys2Proof.Machine
end

