-- ==== Sys2Proof/Laws/FramesFields.lean ====
section
/-! SUPPORT. The clocks, the band table and the cached anchor: what the operations that change another
field of the Timebase or of the Chain Controller leave unchanged there. -/

namespace Sys2Proof.Machine

@[simp] theorem State.settlePoll_now (s : State) :
    (s.settlePoll).tb.now = s.tb.now := by unfold State.settlePoll; split <;> rfl
@[simp] theorem State.settlePoll_timeOfWeek (s : State) :
    (s.settlePoll).tb.timeOfWeek = s.tb.timeOfWeek := by unfold State.settlePoll; split <;> rfl
@[simp] theorem State.settlePoll_bands (s : State) :
    (s.settlePoll).tb.bands = s.tb.bands := by unfold State.settlePoll; split <;> rfl

@[simp] theorem State.enterChain_now (s : State) (c : ChainState) :
    (s.enterChain c).tb.now = s.tb.now := by simp [State.enterChain]
@[simp] theorem State.enterChain_timeOfWeek (s : State) (c : ChainState) :
    (s.enterChain c).tb.timeOfWeek = s.tb.timeOfWeek := by simp [State.enterChain]
@[simp] theorem State.enterChain_bands (s : State) (c : ChainState) :
    (s.enterChain c).tb.bands = s.tb.bands := by simp [State.enterChain]
@[simp] theorem State.enterChain_anchor (s : State) (c : ChainState) :
    (s.enterChain c).cc.anchor = s.cc.anchor := by simp [State.enterChain]

@[simp] theorem State.enterJournal_now (s : State) (j : JournalState) :
    (s.enterJournal j).tb.now = s.tb.now := by simp [State.enterJournal]
@[simp] theorem State.enterJournal_timeOfWeek (s : State) (j : JournalState) :
    (s.enterJournal j).tb.timeOfWeek = s.tb.timeOfWeek := by simp [State.enterJournal]
@[simp] theorem State.enterJournal_bands (s : State) (j : JournalState) :
    (s.enterJournal j).tb.bands = s.tb.bands := by simp [State.enterJournal]

@[simp] theorem State.issueChain_anchor (s : State) (op : ChainOp) (b : Addr) (n : Nat) (x : Transfer) :
    (s.issueChain op b n x).cc.anchor = s.cc.anchor := rfl

@[simp] theorem State.readAnchor_now (s : State) :
    (s.readAnchor).tb.now = s.tb.now := by simp [State.readAnchor]
@[simp] theorem State.readAnchor_timeOfWeek (s : State) :
    (s.readAnchor).tb.timeOfWeek = s.tb.timeOfWeek := by simp [State.readAnchor]
@[simp] theorem State.readAnchor_bands (s : State) :
    (s.readAnchor).tb.bands = s.tb.bands := by simp [State.readAnchor]
@[simp] theorem State.readAnchor_anchor (s : State) :
    (s.readAnchor).cc.anchor = s.cc.anchor := by simp [State.readAnchor]

@[simp] theorem State.fetchCell_now (s : State) :
    (s.fetchCell).tb.now = s.tb.now := by simp [State.fetchCell]
@[simp] theorem State.fetchCell_timeOfWeek (s : State) :
    (s.fetchCell).tb.timeOfWeek = s.tb.timeOfWeek := by simp [State.fetchCell]
@[simp] theorem State.fetchCell_bands (s : State) :
    (s.fetchCell).tb.bands = s.tb.bands := by simp [State.fetchCell]
@[simp] theorem State.fetchCell_anchor (s : State) :
    (s.fetchCell).cc.anchor = s.cc.anchor := by simp [State.fetchCell]

@[simp] theorem State.readLink_now (s : State) :
    (s.readLink).tb.now = s.tb.now := by simp [State.readLink]
@[simp] theorem State.readLink_timeOfWeek (s : State) :
    (s.readLink).tb.timeOfWeek = s.tb.timeOfWeek := by simp [State.readLink]
@[simp] theorem State.readLink_bands (s : State) :
    (s.readLink).tb.bands = s.tb.bands := by simp [State.readLink]
@[simp] theorem State.readLink_anchor (s : State) :
    (s.readLink).cc.anchor = s.cc.anchor := by simp [State.readLink]

@[simp] theorem State.writeRetireMark_now (s : State) (op : ChainOp) (m : Addr) :
    (s.writeRetireMark op m).tb.now = s.tb.now := by simp [State.writeRetireMark]
@[simp] theorem State.writeRetireMark_timeOfWeek (s : State) (op : ChainOp) (m : Addr) :
    (s.writeRetireMark op m).tb.timeOfWeek = s.tb.timeOfWeek := by simp [State.writeRetireMark]
@[simp] theorem State.writeRetireMark_bands (s : State) (op : ChainOp) (m : Addr) :
    (s.writeRetireMark op m).tb.bands = s.tb.bands := by simp [State.writeRetireMark]
@[simp] theorem State.writeRetireMark_anchor (s : State) (op : ChainOp) (m : Addr) :
    (s.writeRetireMark op m).cc.anchor = s.cc.anchor := by simp [State.writeRetireMark]

@[simp] theorem State.complete_now (s : State) (k : ResultCode) (fs : List Field) :
    (s.complete k fs).tb.now = s.tb.now := by simp [State.complete]
@[simp] theorem State.complete_timeOfWeek (s : State) (k : ResultCode) (fs : List Field) :
    (s.complete k fs).tb.timeOfWeek = s.tb.timeOfWeek := by simp [State.complete]
@[simp] theorem State.complete_bands (s : State) (k : ResultCode) (fs : List Field) :
    (s.complete k fs).tb.bands = s.tb.bands := by simp [State.complete]
@[simp] theorem State.complete_anchor (s : State) (k : ResultCode) (fs : List Field) :
    (s.complete k fs).cc.anchor = s.cc.anchor := by simp [State.complete]

@[simp] theorem State.writeStatus_anchor (s : State) (k : ResultCode) :
    (s.writeStatus k).cc.anchor = s.cc.anchor := rfl

@[simp] theorem State.dropCell_anchor (s : State) :
    (s.dropCell).cc.anchor = s.cc.anchor := rfl

@[simp] theorem State.chainFault_now (s : State) (k : FaultKind) (x : Addr) :
    (s.chainFault k x).tb.now = s.tb.now := by simp [State.chainFault]
@[simp] theorem State.chainFault_timeOfWeek (s : State) (k : FaultKind) (x : Addr) :
    (s.chainFault k x).tb.timeOfWeek = s.tb.timeOfWeek := by simp [State.chainFault]
@[simp] theorem State.chainFault_bands (s : State) (k : FaultKind) (x : Addr) :
    (s.chainFault k x).tb.bands = s.tb.bands := by simp [State.chainFault]
@[simp] theorem State.chainFault_anchor (s : State) (k : FaultKind) (x : Addr) :
    (s.chainFault k x).cc.anchor = s.cc.anchor := by simp [State.chainFault]

@[simp] theorem State.chainIdle_now (s : State) :
    (s.chainIdle).tb.now = s.tb.now := by simp [State.chainIdle]
@[simp] theorem State.chainIdle_timeOfWeek (s : State) :
    (s.chainIdle).tb.timeOfWeek = s.tb.timeOfWeek := by simp [State.chainIdle]
@[simp] theorem State.chainIdle_bands (s : State) :
    (s.chainIdle).tb.bands = s.tb.bands := by simp [State.chainIdle]
@[simp] theorem State.chainIdle_anchor (s : State) :
    (s.chainIdle).cc.anchor = s.cc.anchor := by simp [State.chainIdle]

@[simp] theorem State.endFlight_anchor (s : State) :
    (s.endFlight).cc.anchor = s.cc.anchor := rfl

@[simp] theorem State.dispatchCell_now (s : State) (c : FetchedCell) :
    (s.dispatchCell c).tb.now = s.tb.now := by unfold State.dispatchCell; split <;> simp
@[simp] theorem State.dispatchCell_timeOfWeek (s : State) (c : FetchedCell) :
    (s.dispatchCell c).tb.timeOfWeek = s.tb.timeOfWeek := by unfold State.dispatchCell; split <;> simp
@[simp] theorem State.dispatchCell_bands (s : State) (c : FetchedCell) :
    (s.dispatchCell c).tb.bands = s.tb.bands := by unfold State.dispatchCell; split <;> simp
@[simp] theorem State.dispatchCell_anchor (s : State) (c : FetchedCell) :
    (s.dispatchCell c).cc.anchor = s.cc.anchor := by unfold State.dispatchCell; split <;> simp

@[simp] theorem State.retire_now (s : State) (n : Addr) :
    (s.retire n).tb.now = s.tb.now := by simp [State.retire]
@[simp] theorem State.retire_timeOfWeek (s : State) (n : Addr) :
    (s.retire n).tb.timeOfWeek = s.tb.timeOfWeek := by simp [State.retire]
@[simp] theorem State.retire_bands (s : State) (n : Addr) :
    (s.retire n).tb.bands = s.tb.bands := by simp [State.retire]
@[simp] theorem State.retire_anchor (s : State) (n : Addr) :
    (s.retire n).cc.anchor = s.cc.anchor := by simp [State.retire]

@[simp] theorem State.stop_now (s : State) :
    (s.stop).tb.now = s.tb.now := by unfold State.stop; split <;> simp
@[simp] theorem State.stop_timeOfWeek (s : State) :
    (s.stop).tb.timeOfWeek = s.tb.timeOfWeek := by unfold State.stop; split <;> simp
@[simp] theorem State.stop_bands (s : State) :
    (s.stop).tb.bands = s.tb.bands := by unfold State.stop; split <;> simp
@[simp] theorem State.stop_anchor (s : State) :
    (s.stop).cc.anchor = s.cc.anchor := by unfold State.stop; split <;> simp

@[simp] theorem State.nudgeChain_now (s : State) :
    (s.nudgeChain).tb.now = s.tb.now := by unfold State.nudgeChain; split <;> simp
@[simp] theorem State.nudgeChain_timeOfWeek (s : State) :
    (s.nudgeChain).tb.timeOfWeek = s.tb.timeOfWeek := by unfold State.nudgeChain; split <;> simp
@[simp] theorem State.nudgeChain_bands (s : State) :
    (s.nudgeChain).tb.bands = s.tb.bands := by unfold State.nudgeChain; split <;> simp
@[simp] theorem State.nudgeChain_anchor (s : State) :
    (s.nudgeChain).cc.anchor = s.cc.anchor := by unfold State.nudgeChain; split <;> simp

@[simp] theorem State.writeAnchor_anchor (s : State) (h : AnchorHalf) (v : Word32) :
    (s.writeAnchor h v).cc.anchor = s.cc.anchor := by unfold State.writeAnchor; repeat (first | rfl | simp | split)

@[simp] theorem State.startFill_anchor (s : State) (x : Tag) (r : Requester) :
    (s.startFill x r).cc.anchor = s.cc.anchor := rfl

@[simp] theorem State.openPage_now (s : State) (b : Bool) :
    (s.openPage b).tb.now = s.tb.now := by simp [State.openPage]
@[simp] theorem State.openPage_timeOfWeek (s : State) (b : Bool) :
    (s.openPage b).tb.timeOfWeek = s.tb.timeOfWeek := by simp [State.openPage]
@[simp] theorem State.openPage_bands (s : State) (b : Bool) :
    (s.openPage b).tb.bands = s.tb.bands := by simp [State.openPage]

@[simp] theorem State.restartJournal_now (s : State) :
    (s.restartJournal).tb.now = s.tb.now := by simp [State.restartJournal]
@[simp] theorem State.restartJournal_timeOfWeek (s : State) :
    (s.restartJournal).tb.timeOfWeek = s.tb.timeOfWeek := by simp [State.restartJournal]
@[simp] theorem State.restartJournal_bands (s : State) :
    (s.restartJournal).tb.bands = s.tb.bands := by simp [State.restartJournal]

@[simp] theorem State.startJournal_now (s : State) :
    (s.startJournal).tb.now = s.tb.now := by unfold State.startJournal; split <;> simp
@[simp] theorem State.startJournal_timeOfWeek (s : State) :
    (s.startJournal).tb.timeOfWeek = s.tb.timeOfWeek := by unfold State.startJournal; split <;> simp
@[simp] theorem State.startJournal_bands (s : State) :
    (s.startJournal).tb.bands = s.tb.bands := by unfold State.startJournal; split <;> simp

@[simp] theorem State.reopenJournal_now (s : State) :
    (s.reopenJournal).tb.now = s.tb.now := by simp [State.reopenJournal]
@[simp] theorem State.reopenJournal_timeOfWeek (s : State) :
    (s.reopenJournal).tb.timeOfWeek = s.tb.timeOfWeek := by simp [State.reopenJournal]
@[simp] theorem State.reopenJournal_bands (s : State) :
    (s.reopenJournal).tb.bands = s.tb.bands := by simp [State.reopenJournal]

@[simp] theorem State.nudgeJournal_now (s : State) :
    (s.nudgeJournal).tb.now = s.tb.now := by unfold State.nudgeJournal; split <;> simp
@[simp] theorem State.nudgeJournal_timeOfWeek (s : State) :
    (s.nudgeJournal).tb.timeOfWeek = s.tb.timeOfWeek := by unfold State.nudgeJournal; split <;> simp
@[simp] theorem State.nudgeJournal_bands (s : State) :
    (s.nudgeJournal).tb.bands = s.tb.bands := by unfold State.nudgeJournal; split <;> simp

@[simp] theorem State.enterPage_now (s : State) (p : Addr) :
    (s.enterPage p).tb.now = s.tb.now := by simp [State.enterPage]
@[simp] theorem State.enterPage_timeOfWeek (s : State) (p : Addr) :
    (s.enterPage p).tb.timeOfWeek = s.tb.timeOfWeek := by simp [State.enterPage]
@[simp] theorem State.enterPage_bands (s : State) (p : Addr) :
    (s.enterPage p).tb.bands = s.tb.bands := by simp [State.enterPage]

@[simp] theorem State.waitForPage_now (s : State) (b : Bool) :
    (s.waitForPage b).tb.now = s.tb.now := by unfold State.waitForPage; repeat (first | rfl | simp | split)
@[simp] theorem State.waitForPage_timeOfWeek (s : State) (b : Bool) :
    (s.waitForPage b).tb.timeOfWeek = s.tb.timeOfWeek := by unfold State.waitForPage; repeat (first | rfl | simp | split)
@[simp] theorem State.waitForPage_bands (s : State) (b : Bool) :
    (s.waitForPage b).tb.bands = s.tb.bands := by unfold State.waitForPage; repeat (first | rfl | simp | split)

@[simp] theorem State.openAfterClose_now (s : State) :
    (s.openAfterClose).tb.now = s.tb.now := by unfold State.openAfterClose; split <;> simp
@[simp] theorem State.openAfterClose_timeOfWeek (s : State) :
    (s.openAfterClose).tb.timeOfWeek = s.tb.timeOfWeek := by unfold State.openAfterClose; split <;> simp
@[simp] theorem State.openAfterClose_bands (s : State) :
    (s.openAfterClose).tb.bands = s.tb.bands := by unfold State.openAfterClose; split <;> simp

@[simp] theorem State.journalFault_now (s : State) (k : FaultKind) (f : JournalFlight) :
    (s.journalFault k f).tb.now = s.tb.now := by simp [State.journalFault]
@[simp] theorem State.journalFault_timeOfWeek (s : State) (k : FaultKind) (f : JournalFlight) :
    (s.journalFault k f).tb.timeOfWeek = s.tb.timeOfWeek := by simp [State.journalFault]
@[simp] theorem State.journalFault_bands (s : State) (k : FaultKind) (f : JournalFlight) :
    (s.journalFault k f).tb.bands = s.tb.bands := by simp [State.journalFault]

@[simp] theorem State.pollExpiry_now (s : State) :
    (s.pollExpiry).tb.now = s.tb.now := by unfold State.pollExpiry; repeat (first | rfl | simp | split)
@[simp] theorem State.pollExpiry_timeOfWeek (s : State) :
    (s.pollExpiry).tb.timeOfWeek = s.tb.timeOfWeek := by unfold State.pollExpiry; repeat (first | rfl | simp | split)
@[simp] theorem State.pollExpiry_bands (s : State) :
    (s.pollExpiry).tb.bands = s.tb.bands := by unfold State.pollExpiry; repeat (first | rfl | simp | split)
@[simp] theorem State.pollExpiry_anchor (s : State) :
    (s.pollExpiry).cc.anchor = s.cc.anchor := by unfold State.pollExpiry; repeat (first | rfl | simp | split)

@[simp] theorem State.loadAnchor_now (s : State) (f : AnchorFields) :
    (s.loadAnchor f).tb.now = s.tb.now := by simp [State.loadAnchor]
@[simp] theorem State.loadAnchor_timeOfWeek (s : State) (f : AnchorFields) :
    (s.loadAnchor f).tb.timeOfWeek = s.tb.timeOfWeek := by simp [State.loadAnchor]
@[simp] theorem State.loadAnchor_bands (s : State) (f : AnchorFields) :
    (s.loadAnchor f).tb.bands = s.tb.bands := by simp [State.loadAnchor]

@[simp] theorem State.start_now (s : State) :
    (s.start).tb.now = s.tb.now := by unfold State.start; repeat (first | rfl | simp | split)
@[simp] theorem State.start_timeOfWeek (s : State) :
    (s.start).tb.timeOfWeek = s.tb.timeOfWeek := by unfold State.start; repeat (first | rfl | simp | split)
@[simp] theorem State.start_bands (s : State) :
    (s.start).tb.bands = s.tb.bands := by unfold State.start; repeat (first | rfl | simp | split)
@[simp] theorem State.start_anchor (s : State) :
    (s.start).cc.anchor = s.cc.anchor := by unfold State.start; repeat (first | rfl | simp | split)

@[simp] theorem State.restart_now (s : State) :
    (s.restart).tb.now = s.tb.now := by simp [State.restart]
@[simp] theorem State.restart_timeOfWeek (s : State) :
    (s.restart).tb.timeOfWeek = s.tb.timeOfWeek := by simp [State.restart]
@[simp] theorem State.restart_bands (s : State) :
    (s.restart).tb.bands = s.tb.bands := by simp [State.restart]
@[simp] theorem State.restart_anchor (s : State) :
    (s.restart).cc.anchor = s.cc.anchor := by simp [State.restart]

@[simp] theorem State.closePeriod_now (s : State) :
    (s.closePeriod).tb.now = s.tb.now := by simp [State.closePeriod]
@[simp] theorem State.closePeriod_timeOfWeek (s : State) :
    (s.closePeriod).tb.timeOfWeek = s.tb.timeOfWeek := by simp [State.closePeriod]
@[simp] theorem State.closePeriod_bands (s : State) :
    (s.closePeriod).tb.bands = s.tb.bands := by simp [State.closePeriod]
@[simp] theorem State.closePeriod_anchor (s : State) :
    (s.closePeriod).cc.anchor = s.cc.anchor := by simp [State.closePeriod]

@[simp] theorem State.chargeRelease_now (s : State) (r : PendingRelease) :
    (s.chargeRelease r).tb.now = s.tb.now := by simp [State.chargeRelease]
@[simp] theorem State.chargeRelease_timeOfWeek (s : State) (r : PendingRelease) :
    (s.chargeRelease r).tb.timeOfWeek = s.tb.timeOfWeek := by simp [State.chargeRelease]
@[simp] theorem State.chargeRelease_bands (s : State) (r : PendingRelease) :
    (s.chargeRelease r).tb.bands = s.tb.bands := by simp [State.chargeRelease]
@[simp] theorem State.chargeRelease_anchor (s : State) (r : PendingRelease) :
    (s.chargeRelease r).cc.anchor = s.cc.anchor := by simp [State.chargeRelease]

@[simp] theorem State.releaseUncharged_now (s : State) (r : PendingRelease) :
    (s.releaseUncharged r).tb.now = s.tb.now := by unfold State.releaseUncharged; split <;> simp
@[simp] theorem State.releaseUncharged_timeOfWeek (s : State) (r : PendingRelease) :
    (s.releaseUncharged r).tb.timeOfWeek = s.tb.timeOfWeek := by unfold State.releaseUncharged; split <;> simp
@[simp] theorem State.releaseUncharged_bands (s : State) (r : PendingRelease) :
    (s.releaseUncharged r).tb.bands = s.tb.bands := by unfold State.releaseUncharged; split <;> simp
@[simp] theorem State.releaseUncharged_anchor (s : State) (r : PendingRelease) :
    (s.releaseUncharged r).cc.anchor = s.cc.anchor := by unfold State.releaseUncharged; split <;> simp

@[simp] theorem State.refuseSeize_now (s : State) (k : ResultCode) (a : Analysis) (b : Option Band) :
    (s.refuseSeize k a b).tb.now = s.tb.now := by simp [State.refuseSeize]
@[simp] theorem State.refuseSeize_timeOfWeek (s : State) (k : ResultCode) (a : Analysis) (b : Option Band) :
    (s.refuseSeize k a b).tb.timeOfWeek = s.tb.timeOfWeek := by simp [State.refuseSeize]
@[simp] theorem State.refuseSeize_bands (s : State) (k : ResultCode) (a : Analysis) (b : Option Band) :
    (s.refuseSeize k a b).tb.bands = s.tb.bands := by simp [State.refuseSeize]
@[simp] theorem State.refuseSeize_anchor (s : State) (k : ResultCode) (a : Analysis) (b : Option Band) :
    (s.refuseSeize k a b).cc.anchor = s.cc.anchor := by simp [State.refuseSeize]

@[simp] theorem State.admitSeizure_now (s : State) (x : SeizeTerms) (c : Choice) (l : TariffLine) (q : Nat) (ti : Tier) (as : List Attempt) :
    (s.admitSeizure x c l q ti as).tb.now = s.tb.now := by unfold State.admitSeizure; split <;> simp
@[simp] theorem State.admitSeizure_timeOfWeek (s : State) (x : SeizeTerms) (c : Choice) (l : TariffLine) (q : Nat) (ti : Tier) (as : List Attempt) :
    (s.admitSeizure x c l q ti as).tb.timeOfWeek = s.tb.timeOfWeek := by unfold State.admitSeizure; split <;> simp
@[simp] theorem State.admitSeizure_bands (s : State) (x : SeizeTerms) (c : Choice) (l : TariffLine) (q : Nat) (ti : Tier) (as : List Attempt) :
    (s.admitSeizure x c l q ti as).tb.bands = s.tb.bands := by unfold State.admitSeizure; split <;> simp
@[simp] theorem State.admitSeizure_anchor (s : State) (x : SeizeTerms) (c : Choice) (l : TariffLine) (q : Nat) (ti : Tier) (as : List Attempt) :
    (s.admitSeizure x c l q ti as).cc.anchor = s.cc.anchor := by unfold State.admitSeizure; split <;> simp

@[simp] theorem State.admitChoice_now (s : State) (p : WalkFor) (c : Choice) (l : TariffLine) (q : Nat) (ti : Tier) (as : List Attempt) :
    (s.admitChoice p c l q ti as).tb.now = s.tb.now := by unfold State.admitChoice; split <;> simp
@[simp] theorem State.admitChoice_timeOfWeek (s : State) (p : WalkFor) (c : Choice) (l : TariffLine) (q : Nat) (ti : Tier) (as : List Attempt) :
    (s.admitChoice p c l q ti as).tb.timeOfWeek = s.tb.timeOfWeek := by unfold State.admitChoice; split <;> simp
@[simp] theorem State.admitChoice_bands (s : State) (p : WalkFor) (c : Choice) (l : TariffLine) (q : Nat) (ti : Tier) (as : List Attempt) :
    (s.admitChoice p c l q ti as).tb.bands = s.tb.bands := by unfold State.admitChoice; split <;> simp
@[simp] theorem State.admitChoice_anchor (s : State) (p : WalkFor) (c : Choice) (l : TariffLine) (q : Nat) (ti : Tier) (as : List Attempt) :
    (s.admitChoice p c l q ti as).cc.anchor = s.cc.anchor := by unfold State.admitChoice; split <;> simp

@[simp] theorem State.endCrankback_now (s : State) (i : CtxId) (k : ResultCode) (as : List Attempt) :
    (s.endCrankback i k as).tb.now = s.tb.now := by simp [State.endCrankback]
@[simp] theorem State.endCrankback_timeOfWeek (s : State) (i : CtxId) (k : ResultCode) (as : List Attempt) :
    (s.endCrankback i k as).tb.timeOfWeek = s.tb.timeOfWeek := by simp [State.endCrankback]
@[simp] theorem State.endCrankback_bands (s : State) (i : CtxId) (k : ResultCode) (as : List Attempt) :
    (s.endCrankback i k as).tb.bands = s.tb.bands := by simp [State.endCrankback]
@[simp] theorem State.endCrankback_anchor (s : State) (i : CtxId) (k : ResultCode) (as : List Attempt) :
    (s.endCrankback i k as).cc.anchor = s.cc.anchor := by simp [State.endCrankback]

@[simp] theorem State.walkExhausted_now (s : State) (p : WalkFor) (as : List Attempt) :
    (s.walkExhausted p as).tb.now = s.tb.now := by unfold State.walkExhausted; split <;> simp
@[simp] theorem State.walkExhausted_timeOfWeek (s : State) (p : WalkFor) (as : List Attempt) :
    (s.walkExhausted p as).tb.timeOfWeek = s.tb.timeOfWeek := by unfold State.walkExhausted; split <;> simp
@[simp] theorem State.walkExhausted_bands (s : State) (p : WalkFor) (as : List Attempt) :
    (s.walkExhausted p as).tb.bands = s.tb.bands := by unfold State.walkExhausted; split <;> simp
@[simp] theorem State.walkExhausted_anchor (s : State) (p : WalkFor) (as : List Attempt) :
    (s.walkExhausted p as).cc.anchor = s.cc.anchor := by unfold State.walkExhausted; split <;> simp

/-! ## The fill of TAU and the bands, through the operations that touch other fields of their block -/

@[simp] theorem State.flush_fill (s : State) : s.flush.tau.fill = s.tau.fill := rfl
@[simp] theorem State.dropLines_fill (s : State) (f : Tag → Bool) :
    (s.dropLines f).tau.fill = s.tau.fill := rfl
@[simp] theorem State.agreeSet_fill (s : State) (q : AgreeRequest) :
    (s.agreeSet q).tau.fill = s.tau.fill := by
  unfold State.agreeSet
  simp only
  split <;> rfl
@[simp] theorem State.loadAnchor_fill (s : State) (f : AnchorFields) :
    (s.loadAnchor f).tau.fill = s.tau.fill := by simp [State.loadAnchor]
@[simp] theorem State.advanceTick_bands (s : State) : s.advanceTick.tb.bands = s.tb.bands := rfl
@[simp] theorem State.advanceTick_pollCounter (s : State) :
    s.advanceTick.tb.pollCounter = s.tb.pollCounter := rfl

end Sys2Proof.Machine
end

