-- ==== Sys2Proof/Laws/Ticks.lean ====
section
/-! SUPPORT. What a tick advance does, record by record. -/

namespace Sys2Proof.Machine

/-! ## Groups -/

/-- A quiet expiry keeps what it does not name (R87 to R89). -/
theorem Group.quietExpiry_keeps (r : Group) (row : Vector Control 4) (now : Tick) :
    (r.quietExpiry row now).1.busy = r.busy ∧
    (r.quietExpiry row now).1.provisioned = r.provisioned ∧
    (r.quietExpiry row now).1.isOpen = r.isOpen ∧ (r.quietExpiry row now).1.owner = r.owner ∧
    (r.quietExpiry row now).1.profileSet = r.profileSet ∧
    (r.quietExpiry row now).1.mode = r.mode ∧ (r.quietExpiry row now).1.depth = r.depth ∧
    (r.quietExpiry row now).1.seizes = r.seizes ∧
    (r.quietExpiry row now).1.pressures = r.pressures := by
  unfold Group.quietExpiry
  split
  · simp [Group.rest]
  · split <;> simp [Group.stepDown, Group.adviseDown, Group.copyControl, Group.startQuiet]

/-- The expiries of a tick keep what they do not name. -/
theorem Group.takeExpiries_keeps (r : Group) (row : Vector Control 4) (now : Tick) :
    (r.takeExpiries row now).1.busy = r.busy ∧
    (r.takeExpiries row now).1.provisioned = r.provisioned ∧
    (r.takeExpiries row now).1.isOpen = r.isOpen ∧ (r.takeExpiries row now).1.owner = r.owner ∧
    (r.takeExpiries row now).1.profileSet = r.profileSet ∧
    (r.takeExpiries row now).1.mode = r.mode ∧ (r.takeExpiries row now).1.depth = r.depth ∧
    (r.takeExpiries row now).1.seizes = r.seizes ∧
    (r.takeExpiries row now).1.pressures = r.pressures := by
  unfold Group.takeExpiries
  simp only
  split <;> split <;> simp [Group.quietExpiry_keeps, Group.endHoldOff]

/-- With nothing due no record changes. -/
theorem Group.takeExpiries_of_not_due {r : Group} {now : Tick} (row : Vector Control 4)
    (h : r.holdOffDue now = false) (q : r.quietDue now = false) :
    r.takeExpiries row now = (r, false) := by simp [Group.takeExpiries, h, q]

/-- Every group takes its due expiries, on its own record. -/
@[simp] theorem State.takeGroupExpiries_group (s : State) (g : GroupId) :
    s.takeGroupExpiries.group g = (s.groupExpiries (s.group g)).1 := by
  unfold State.takeGroupExpiries State.group
  simp only
  split <;> simp [State.raise]

/-- The due expiries of all groups as one equation: CHANGE is set where one of them set a change flag. -/
theorem State.takeGroupExpiries_eq (s : State) : s.takeGroupExpiries = { s with
    groups := s.groups.map (fun r => (s.groupExpiries r).1),
    afl := if s.groups.toList.any (fun r => (s.groupExpiries r).2) then s.afl.raise .change
      else s.afl } := by
  unfold State.takeGroupExpiries
  simp only
  split <;> rfl

/-! ## Contexts -/

/-- Every context takes its overdue expiry where the limit read at the tick makes it due. -/
@[simp] theorem State.takeOverdueExpiries_context (s : State) (i : CtxId) :
    s.takeOverdueExpiries.context i = s.takeOverdue (s.context i) := by
  unfold State.takeOverdueExpiries State.context
  simp only
  split <;> simp [State.raise]

/-- The due overdue expiries as one equation: each sets CHANGE. -/
theorem State.takeOverdueExpiries_eq (s : State) : s.takeOverdueExpiries = { s with
    ct := { s.ct with contexts := s.ct.contexts.map s.takeOverdue },
    afl := if s.ct.contexts.toList.any (Context.overdueAt s.ct.limitAtTick s.now)
      then s.afl.raise .change else s.afl } := by
  unfold State.takeOverdueExpiries
  simp only
  split <;> rfl

/-- An overdue expiry changes the overdue flag alone. -/
theorem State.takeOverdue_eq (s : State) (c : Context) : s.takeOverdue c = { c with
    overdue := c.overdue || c.overdueAt s.ct.limitAtTick s.now } := by
  unfold State.takeOverdue
  split <;> simp_all

/-! ## The counts -/

/-- The tick advance keeps every context. -/
@[simp] theorem State.advanceTick_context (s : State) (i : CtxId) :
    s.advanceTick.context i = s.context i := rfl

/-- A tick advance outside a reset, as one equation. -/
theorem execTickAdvance_eq {s : State} (h : s.inReset = false) :
    execTickAdvance s = .next s.takeGroupExpiries.takeOverdueExpiries.advanceTick := by
  simp [execTickAdvance, h]

/-- A tick advance that finds no expiry still due moves the counts and reads the limit. -/
theorem execTickAdvance_of_not_due {s : State} (h : s.inReset = false)
    (hg : ∀ r ∈ s.groups.toList, r.holdOffDue s.now = false ∧ r.quietDue s.now = false)
    (hc : ∀ c ∈ s.ct.contexts.toList, c.overdueAt s.ct.limitAtTick s.now = false) :
    execTickAdvance s = .next s.advanceTick := by
  have e1 : s.takeGroupExpiries = s := by
    have hk : ∀ r ∈ s.groups.toList, s.groupExpiries r = (r, false) := fun r hr =>
      Group.takeExpiries_of_not_due _ (hg r hr).1 (hg r hr).2
    rw [State.takeGroupExpiries_eq]
    have ha : s.groups.toList.any (fun r => (s.groupExpiries r).2) = false := by
      simp only [List.any_eq_false]
      intro r hr
      simp [hk r hr]
    have hm : s.groups.map (fun r => (s.groupExpiries r).1) = s.groups := by
      apply Vector.ext
      intro i hi
      rw [Vector.getElem_map, hk _ (by simp)]
    rw [hm, ha]
    rfl
  have e2 : s.takeOverdueExpiries = s := by
    rw [State.takeOverdueExpiries_eq]
    have ha : s.ct.contexts.toList.any (Context.overdueAt s.ct.limitAtTick s.now) = false := by
      simp only [List.any_eq_false]
      intro c hc'
      simp [hc c hc']
    have hm : s.ct.contexts.map s.takeOverdue = s.ct.contexts := by
      apply Vector.ext
      intro i hi
      rw [Vector.getElem_map, State.takeOverdue, hc _ (by simp)]
      rfl
    rw [hm, ha]
    rfl
  rw [execTickAdvance_eq h, e1, e2]

end Sys2Proof.Machine
end

