-- ==== Sys2Proof/Laws/Walk.lean ====
section
/-! SUPPORT. What one event of a seizure, of a crankback and of a walk over the choices of a route list
can do, said once. -/

namespace Sys2Proof.Machine

/-! ## What the checks of choices may have left behind -/

/-- A state that the checks of rejected choices have led to: pressure events and thinning steps alone
(R99, R103, R104). -/
inductive State.Considered (s : State) : State → Prop where
  | refl : s.Considered s
  | pressure {t : State} (g : GroupId) : s.Considered t → s.Considered (t.pressure g)
  | thin {t : State} (g : GroupId) : s.Considered t →
      s.Considered (t.setGroup g (t.group g).thin.1)

/-- A property that pressure events and thinning steps keep is kept by the checks. -/
theorem State.Considered.keeps {P : State → Prop} {s t : State} (h : s.Considered t) (hs : P s)
    (hp : ∀ u g, P u → P (u.pressure g))
    (ht : ∀ u g, P u → P (u.setGroup g (u.group g).thin.1)) : P t := by
  induction h with
  | refl => exact hs
  | pressure g _ ih => exact hp _ g ih
  | thin g _ ih => exact ht _ g ih

/-- The checks change groups and the attention alone. -/
theorem State.Considered.frame {s t : State} (h : s.Considered t) :
    t = { s with groups := t.groups, afl := t.afl } := by
  have key : ∀ (u : State) (G : Vector Group 512) (A : AttentionLogic),
      u = { s with groups := u.groups, afl := u.afl } →
      ({ u with groups := G, afl := A } : State) = { s with groups := G, afl := A } := by
    intro u G A hu
    rw [hu]
  induction h with
  | refl => rfl
  | pressure g _ ih =>
    rw [State.pressure, State.monitor_eq]
    exact key _ _ _ ih
  | thin g _ ih => exact key _ _ _ ih

/-- A thinning step keeps everything of a group but the accumulator. -/
theorem Group.thin_eq (r : Group) : r.thin.1 = { r with thinning := r.thin.1.thinning } := by
  unfold Group.thin
  simp only
  split <;> rfl

/-- What checks 6 to 10 come to: the reason leaves the state, a pressure event on the group or a
thinning step; a pass leaves the state or a thinning step, with a circuit idle (R102 to R104). -/
theorem secondPart_cases (p : WalkFor) (c : Choice) (line : TariffLine) (s : State) :
    (∃ reason t, secondPart p c line s = .rejected reason t
      ∧ (t = s ∨ t = s.pressure c.group ∨ t = s.setGroup c.group (s.group c.group).thin.1))
    ∨ ∃ quote tier t, secondPart p c line s = .passed quote tier t
      ∧ (t = s ∨ t = s.setGroup c.group (s.group c.group).thin.1)
      ∧ (s.group c.group).busy < (s.group c.group).provisioned := by
  unfold secondPart
  simp only
  split
  · exact .inl ⟨_, _, rfl, .inl rfl⟩
  · split
    · exact .inl ⟨_, _, rfl, .inl rfl⟩
    · split
      · exact .inl ⟨_, _, rfl, .inr (.inl rfl)⟩
      · split
        · exact .inr ⟨_, _, _, rfl, .inl rfl, by omega⟩
        · split
          · exact .inl ⟨_, _, rfl, .inl rfl⟩
          · split
            · exact .inr ⟨_, _, _, rfl, .inr rfl, by omega⟩
            · exact .inl ⟨_, _, rfl, .inr (.inr rfl)⟩

/-- The states checks 6 to 10 leave are considered ones. -/
theorem secondPart_considered {p : WalkFor} {c : Choice} {line : TariffLine} {s u : State}
    (h : s.Considered u) :
    (∀ reason t, secondPart p c line u = .rejected reason t → s.Considered t)
    ∧ ∀ quote tier t, secondPart p c line u = .passed quote tier t → s.Considered t := by
  rcases secondPart_cases p c line u with ⟨_, _, e, h1⟩ | ⟨_, _, _, e, h1, _⟩
  · refine ⟨fun reason t h2 => ?_, fun quote tier t h2 => ?_⟩
    · rw [e] at h2
      cases h2
      rcases h1 with rfl | rfl | rfl
      · exact h
      · exact h.pressure _
      · exact h.thin _
    · rw [e] at h2; cases h2
  · refine ⟨fun reason t h2 => ?_, fun quote tier t h2 => ?_⟩
    · rw [e] at h2; cases h2
    · rw [e] at h2
      cases h2
      rcases h1 with rfl | rfl
      · exact h
      · exact h.thin _

/-- A choice that passes leaves its group with a circuit idle. -/
theorem secondPart_idle {p : WalkFor} {c : Choice} {line : TariffLine} {s t : State} {quote : Nat}
    {tier : Tier} (h : secondPart p c line s = .passed quote tier t) :
    (t.group c.group).busy < (t.group c.group).provisioned := by
  rcases secondPart_cases p c line s with ⟨_, _, e, _⟩ | ⟨_, _, _, e, h1, hb⟩
  · rw [e] at h; cases h
  · rw [e] at h
    cases h
    rcases h1 with rfl | rfl
    · exact hb
    · rw [Group.thin_eq]
      simpa using hb

/-! ## The events of a walk -/

/-- What one event of a walk can come to: its end, the walk before its next choices with the effects of a
rejected choice, the wait for an owner's line that is not held, or an admission. -/
inductive State.WalkNext (p : WalkFor) (s : State) : State → Prop where
  | exhausted (attempts : List Attempt) : State.WalkNext p s (s.walkExhausted p attempts)
  | goesOn {t : State} (attempts : List Attempt) (choices : List Choice) : s.Considered t →
      State.WalkNext p s (t.walkOn p attempts choices)
  | waits (w : Walk) (tag : Tag) : w.purpose = p → s.lookup tag = none →
      State.WalkNext p s (s.startFill tag (.owner w))
  | admitted {t : State} (c : Choice) (line : TariffLine) (quote : Nat) (tier : Tier)
      (attempts : List Attempt) : s.Considered t →
      (t.group c.group).busy < (t.group c.group).provisioned →
      State.WalkNext p s (t.admitChoice p c line quote tier attempts)

/-- The second part of a choice comes to one of these. -/
theorem Walk.resume_next (w : Walk) (bytes : List Byte) (s : State) :
    State.WalkNext w.purpose s (w.resume bytes s) := by
  unfold Walk.resume
  split
  · exact .goesOn _ _ ((secondPart_considered .refl).1 _ _ ‹_›)
  · exact .admitted _ _ _ _ _ ((secondPart_considered .refl).2 _ _ _ ‹_›) (secondPart_idle ‹_›)

/-- A rejected choice leaves the walk before the next. -/
theorem Walk.reject_next (w : Walk) (reason : Reason) (s : State) :
    State.WalkNext w.purpose s (w.reject reason s) := .goesOn _ _ .refl

/-- One choice comes to one of these. -/
theorem Walk.evaluate_next (w : Walk) (s : State) :
    State.WalkNext w.purpose s (w.evaluate s) := by
  unfold Walk.evaluate
  split
  · exact w.reject_next _ _
  · split
    · exact w.resume_next _ _
    · exact .waits _ _ rfl ‹_›

/-- The next event of a walk comes to one of these. -/
theorem State.walkEvent_next (p : WalkFor) (attempts : List Attempt) (choices : List Choice)
    (s : State) : State.WalkNext p s (s.walkEvent p attempts choices) := by
  cases choices with
  | nil => exact .exhausted attempts
  | cons c rest => exact Walk.evaluate_next ⟨p, attempts, c, rest⟩ s

/-! ## The first event of a SEIZE and of a CRANKBACK -/

/-- What stages 1 to 7 of a SEIZE can come to: a refusal, the wait for a line that is not held, or the walk
before its first choice. -/
inductive State.SeizeNext (s : State) : State → Prop where
  | refused (code : ResultCode) (fields : List Field) : s.SeizeNext (s.complete code fields)
  | waits (tag : Tag) (r : Requester) : s.lookup tag = none →
      (∀ i, r ≠ .crankRoute i) → (∀ w, r ≠ .owner w) → s.SeizeNext (s.startFill tag r)
  | walks (terms : SeizeTerms) (choices : List Choice) :
      s.SeizeNext (s.walkOn (.seize terms) [] choices)

theorem seizeOnRoute_next (t : SeizeTerms) (bytes : List Byte) (s : State) :
    s.SeizeNext (seizeOnRoute t bytes s) := by
  unfold seizeOnRoute
  split
  · exact .refused _ _
  · exact .walks _ _

theorem seizeRoute_next (t : SeizeTerms) (s : State) : s.SeizeNext (seizeRoute t s) := by
  unfold seizeRoute
  split
  · exact .refused _ _
  · split
    · exact seizeOnRoute_next _ _ _
    · exact .waits _ _ ‹_› (by simp) (by simp)

theorem seizeOnTransit_next (q : SeizeCall) (a : Analysis) (b : Band) (bytes : List Byte)
    (s : State) : s.SeizeNext (seizeOnTransit q a b bytes s) := by
  unfold seizeOnTransit
  simp only
  split
  · exact seizeRoute_next _ _
  · exact .refused _ _

theorem seizeTransit_next (q : SeizeCall) (a : Analysis) (s : State) :
    s.SeizeNext (seizeTransit q a s) := by
  unfold seizeTransit
  simp only
  split
  · exact seizeOnTransit_next _ _ _ _ _
  · exact .waits _ _ ‹_› (by simp) (by simp)

theorem seizeOnArea_next (q : SeizeCall) (key : Nat) (dialled : List Nat) (bytes : List Byte)
    (s : State) : s.SeizeNext (seizeOnArea q key dialled bytes s) := by
  unfold seizeOnArea
  simp only
  split
  · exact seizeTransit_next _ _ _
  · exact .refused _ _

theorem seizeDestination_next (q : SeizeRequest) (s : State) :
    s.SeizeNext (seizeDestination q s) := by
  unfold seizeDestination
  split
  · exact seizeTransit_next _ _ _
  · split
    · exact .refused _ _
    · simp only
      split
      · exact seizeOnArea_next _ _ _ _ _
      · exact .waits _ _ ‹_› (by simp) (by simp)

theorem seizeCell_next (c : FetchedCell) (s : State) : s.SeizeNext (seizeCell c s) := by
  unfold seizeCell
  split
  · exact .refused _ _
  · split
    · exact .refused _ _
    · split
      · exact .refused _ _
      · split
        · exact .refused _ _
        · exact seizeDestination_next _ _

/-- The first event of a SEIZE comes to one of these from the state without the operand bytes. -/
theorem seizeFirstEvent_next (c : FetchedCell) (s : State) :
    s.dropOperands.SeizeNext (seizeFirstEvent c s) := seizeCell_next c s.dropOperands

/-- What the route list of a CRANKBACK can come to: the wait for it, or the walk before its choices. -/
inductive State.CrankNext (i : CtxId) (s : State) : State → Prop where
  | waits (tag : Tag) : s.lookup tag = none →
      State.CrankNext i s (s.startFill tag (.crankRoute i))
  | walks (choices : List Choice) : State.CrankNext i s (s.walkOn (.crankback i) [] choices)

theorem crankRoute_next (i : CtxId) (s : State) : State.CrankNext i s (crankRoute i s) := by
  unfold crankRoute
  simp only
  split
  · exact .walks _
  · split
    · exact .walks _
    · exact .waits _ ‹_›

/-- What the first event of a CRANKBACK can come to: a refusal with no effect, the freeing at the limit
after its pressure event, or its route list after its pressure event. -/
inductive State.CrankCellNext (s : State) : State → Prop where
  | refused (code : ResultCode) (fields : List Field) : s.CrankCellNext (s.complete code fields)
  | limit (i : CtxId) : (s.context i).state = .seized →
      s.CrankCellNext ((s.pressure (s.context i).group).endCrankback i .crankbackLimit [])
  | walks {t : State} (i : CtxId) : (s.context i).state = .seized →
      (s.context i).crankbacks < 2 →
      State.CrankNext i (s.pressure (s.context i).group) t → s.CrankCellNext t

theorem crankbackCell_next (c : FetchedCell) (s : State) :
    s.CrankCellNext (crankbackCell c s) := by
  unfold crankbackCell
  simp only
  split
  · exact .refused _ _
  · rename_i hv
    split
    · exact .refused _ _
    · rename_i ha
      have hs : (s.context (handleIndex (c.operand 16 2))).state = .seized := by
        simp only [State.handleValid, Context.live, Bool.not_eq_true', Bool.not_eq_false,
          Bool.and_eq_true, bne_iff_ne] at hv
        cases hx : (s.context (handleIndex (c.operand 16 2))).state with
        | free => exact absurd hx hv.1
        | seized => rfl
        | answered => exact absurd hx ha
      split
      · exact .limit _ hs
      · exact .walks _ hs (by omega) (crankRoute_next _ _)

/-! ## The commands SEIZE and CRANKBACK -/

/-- A step of SEIZE takes the next event of a seizure's walk, or its first event on the cell in hand, or
changes nothing. -/
theorem execSeize_cases (s : State) :
    (∃ terms attempts choices, s.WalkInHand (.seize terms) attempts choices
      ∧ execSeize s = .next (s.walkEvent (.seize terms) attempts choices))
    ∨ (∃ c, s.InHand .seize c ∧ execSeize s = .next (seizeFirstEvent c s))
    ∨ execSeize s = .next s := by
  unfold execSeize onWalk
  split
  · rename_i p attempts choices hs hw
    cases p with
    | seize terms => exact .inl ⟨terms, attempts, choices, ⟨hs, hw⟩, rfl⟩
    | crankback i => exact .inr (.inr rfl)
  · rcases onRequest_cases .seize seizeFirstEvent s with ⟨c, h, e⟩ | ⟨_, e⟩
    · exact .inr (.inl ⟨c, h, e⟩)
    · exact .inr (.inr e)

/-- A step of CRANKBACK, in the same three cases. -/
theorem execCrankback_cases (s : State) :
    (∃ i attempts choices, s.WalkInHand (.crankback i) attempts choices
      ∧ execCrankback s = .next (s.walkEvent (.crankback i) attempts choices))
    ∨ (∃ c, s.InHand .crankback c ∧ execCrankback s = .next (crankbackCell c s))
    ∨ execCrankback s = .next s := by
  unfold execCrankback onWalk
  split
  · rename_i p attempts choices hs hw
    cases p with
    | seize terms => exact .inr (.inr rfl)
    | crankback i => exact .inl ⟨i, attempts, choices, ⟨hs, hw⟩, rfl⟩
  · rcases onRequest_cases .crankback crankbackCell s with ⟨c, h, e⟩ | ⟨_, e⟩
    · exact .inr (.inl ⟨c, h, e⟩)
    · exact .inr (.inr e)

/-- The command of a walk takes the walk's next event. -/
theorem exec_of_walkInHand {p : WalkFor} {attempts : List Attempt} {choices : List Choice}
    {s : State} (h : s.WalkInHand p attempts choices) :
    exec p.command s = .next (s.walkEvent p attempts choices) := by
  obtain ⟨h1, h2⟩ := h
  cases p <;> simp [WalkFor.command, exec, execSeize, execCrankback, onWalk, h1, h2, WalkFor.isSeize]

/-- A request just dispatched has no walk in hand: SEIZE takes its first event. -/
theorem execSeize_of_inHand {c : FetchedCell} {s : State} (h : s.InHand .seize c) :
    execSeize s = .next (seizeFirstEvent c s) := by
  have h2 := h.2.1
  simp [execSeize, onWalk, h2, onRequest_of_inHand h]

/-- The same of CRANKBACK. -/
theorem execCrankback_of_inHand {c : FetchedCell} {s : State} (h : s.InHand .crankback c) :
    execCrankback s = .next (crankbackCell c s) := by
  have h2 := h.2.1
  simp [execCrankback, onWalk, h2, onRequest_of_inHand h]

/-! ## The end of a fill -/

/-- Where the context of a requester stands: a seizure has none, a crankback has its own. -/
def Requester.purpose : Requester → Option CtxId
  | .area _ => none
  | .transit _ _ _ => none
  | .route _ => none
  | .crankRoute i => some i
  | .owner w =>
    match w.purpose with
    | .seize _ => none
    | .crankback i => some i

/-- What a request that waited for a line can come to. -/
inductive Requester.Next (r : Requester) (s : State) : State → Prop where
  | seize {t : State} : r.purpose = none → s.SeizeNext t → Requester.Next r s t
  | walk {t : State} (p : WalkFor) : (∀ i, p = .crankback i → r.purpose = some i) →
      State.WalkNext p s t → Requester.Next r s t
  | freed (i : CtxId) : r = .crankRoute i →
      Requester.Next r s (s.endCrankback i .tableFault [])

/-- The requester goes on with its line to one of these. -/
theorem Requester.onLine_next (r : Requester) (bytes : List Byte) (s : State) :
    r.Next s (r.onLine bytes s) := by
  cases r with
  | area q => exact .seize rfl (seizeOnArea_next _ _ _ _ _)
  | transit q a b => exact .seize rfl (seizeOnTransit_next _ _ _ _ _)
  | route t => exact .seize rfl (seizeOnRoute_next _ _ _)
  | crankRoute i => exact .walk (.crankback i) (by rintro _ ⟨⟩; rfl) (.goesOn _ _ .refl)
  | owner w =>
    exact .walk w.purpose (fun i h => by simp [Requester.purpose, h]) (w.resume_next bytes s)

/-- The requester goes on with a table fault to one of these. -/
theorem Requester.onFault_next (r : Requester) (s : State) : r.Next s (r.onFault s) := by
  cases r with
  | area q => exact .seize rfl (.refused _ _)
  | transit q a b => exact .seize rfl (.refused _ _)
  | route t => exact .seize rfl (.refused _ _)
  | crankRoute i => exact .freed i rfl
  | owner w =>
    exact .walk w.purpose (fun i h => by simp [Requester.purpose, h]) (w.reject_next _ s)

/-! ## What a SEIZE, a CRANKBACK or the end of a fill leaves unchanged -/

/-- Nothing but the chain, the fill, the poll counter, the groups, the contexts and the attention has
changed. -/
structure State.RouteFrame (s t : State) : Prop where
  anchor : t.cc.anchor = s.cc.anchor
  now : t.tb.now = s.tb.now
  timeOfWeek : t.tb.timeOfWeek = s.tb.timeOfWeek
  bands : t.tb.bands = s.tb.bands
  lines : t.tau.lines = s.tau.lines
  profiles : t.profiles = s.profiles
  answerLimit : t.ct.answerLimit = s.ct.answerLimit
  limitAtTick : t.ct.limitAtTick = s.ct.limitAtTick
  agr : t.agr = s.agr
  ru : t.ru = s.ru
  jw : t.jw = s.jw
  resets : t.resets = s.resets
  pending : t.pending = s.pending

theorem State.RouteFrame.trans {s t u : State} (h : s.RouteFrame t) (k : t.RouteFrame u) :
    s.RouteFrame u :=
  ⟨k.anchor.trans h.anchor, k.now.trans h.now, k.timeOfWeek.trans h.timeOfWeek, k.bands.trans h.bands,
    k.lines.trans h.lines, k.profiles.trans h.profiles, k.answerLimit.trans h.answerLimit,
    k.limitAtTick.trans h.limitAtTick,
    k.agr.trans h.agr, k.ru.trans h.ru, k.jw.trans h.jw, k.resets.trans h.resets,
    k.pending.trans h.pending⟩

/-- The frame as one equation. -/
theorem State.RouteFrame.eq {s t : State} (h : s.RouteFrame t) : t = { s with
    cc := t.cc, tau := { s.tau with fill := t.tau.fill }, groups := t.groups, ct := t.ct,
    afl := t.afl, tb := { s.tb with pollCounter := t.tb.pollCounter } } := by
  have htb : t.tb = { s.tb with pollCounter := t.tb.pollCounter } := by
    show t.tb = ⟨s.tb.now, s.tb.timeOfWeek, s.tb.bands, t.tb.pollCounter⟩
    rw [← h.now, ← h.timeOfWeek, ← h.bands]
  have htau : t.tau = { s.tau with fill := t.tau.fill } := by
    show t.tau = ⟨s.tau.lines, t.tau.fill⟩
    rw [← h.lines]
  rw [← htb, ← htau, ← h.profiles, ← h.agr, ← h.ru, ← h.jw, ← h.resets, ← h.pending]

theorem State.Considered.routeFrame {s t : State} (h : s.Considered t) : s.RouteFrame t := by
  constructor <;> rw [h.frame]

theorem State.dropOperands_routeFrame (s : State) : s.RouteFrame s.dropOperands := by
  constructor <;> rfl

theorem State.complete_routeFrame (s : State) (k : ResultCode) (fields : List Field) :
    s.RouteFrame (s.complete k fields) := by
  constructor <;> simp

theorem State.startFill_routeFrame (s : State) (t : Tag) (r : Requester) :
    s.RouteFrame (s.startFill t r) := by
  constructor <;> rfl

theorem State.freeContext_routeFrame (s : State) (i : CtxId) :
    s.RouteFrame (s.freeContext i) := by
  constructor <;> first
    | simp
    | (unfold State.freeContext; simp only; split <;> rfl)

theorem State.endCrankback_routeFrame (s : State) (i : CtxId) (k : ResultCode)
    (attempts : List Attempt) : s.RouteFrame (s.endCrankback i k attempts) :=
  (s.freeContext_routeFrame i).trans (State.complete_routeFrame _ _ _)

theorem State.admitChoice_routeFrame (s : State) (p : WalkFor) (c : Choice) (line : TariffLine)
    (quote : Nat) (tier : Tier) (attempts : List Attempt) :
    s.RouteFrame (s.admitChoice p c line quote tier attempts) := by
  unfold State.admitChoice
  simp only
  split
  · unfold State.admitSeizure
    split
    · exact State.complete_routeFrame _ _ _
    · refine State.RouteFrame.trans ?_ (State.complete_routeFrame _ _ _)
      constructor <;> rfl
  · refine State.RouteFrame.trans ?_ (State.complete_routeFrame _ _ _)
    unfold State.moveContext
    simp only
    split <;> constructor <;> rfl

theorem State.walkOn_routeFrame (s : State) (p : WalkFor) (attempts : List Attempt)
    (choices : List Choice) : s.RouteFrame (s.walkOn p attempts choices) := by
  constructor <;> rfl

theorem State.WalkNext.routeFrame {p : WalkFor} {s t : State} (h : State.WalkNext p s t) :
    s.RouteFrame t := by
  cases h with
  | exhausted attempts =>
    unfold State.walkExhausted
    split
    · exact State.complete_routeFrame _ _ _
    · exact State.endCrankback_routeFrame _ _ _ _
  | goesOn attempts choices h => exact h.routeFrame.trans (State.walkOn_routeFrame _ _ _ _)
  | waits w tag _ => exact State.startFill_routeFrame _ _ _
  | admitted c line quote tier attempts h =>
    exact h.routeFrame.trans (State.admitChoice_routeFrame _ _ _ _ _ _ _)

theorem State.SeizeNext.routeFrame {s t : State} (h : s.SeizeNext t) : s.RouteFrame t := by
  cases h with
  | refused => exact State.complete_routeFrame _ _ _
  | waits => exact State.startFill_routeFrame _ _ _
  | walks => exact State.walkOn_routeFrame _ _ _ _

theorem seizeFirstEvent_routeFrame (c : FetchedCell) (s : State) :
    s.RouteFrame (seizeFirstEvent c s) :=
  s.dropOperands_routeFrame.trans (seizeFirstEvent_next c s).routeFrame

theorem State.CrankNext.routeFrame {i : CtxId} {s t : State} (h : State.CrankNext i s t) :
    s.RouteFrame t := by
  cases h with
  | waits => exact State.startFill_routeFrame _ _ _
  | walks => exact State.walkOn_routeFrame _ _ _ _

theorem State.CrankCellNext.routeFrame {s t : State} (h : s.CrankCellNext t) : s.RouteFrame t := by
  cases h with
  | refused => exact State.complete_routeFrame _ _ _
  | limit i =>
    exact (State.Considered.refl.pressure _).routeFrame.trans
      (State.endCrankback_routeFrame _ _ _ _)
  | walks i _ _ h => exact (State.Considered.refl.pressure _).routeFrame.trans h.routeFrame

theorem Requester.Next.routeFrame {r : Requester} {s t : State} (h : r.Next s t) :
    s.RouteFrame t := by
  cases h with
  | seize _ h => exact h.routeFrame
  | walk _ _ h => exact h.routeFrame
  | freed i _ => exact State.endCrankback_routeFrame _ _ _ _

end Sys2Proof.Machine
end

