-- ==== Sys2Proof/WellFormed.lean ====
section
/-! DEFINITION. Which terms of `Instr` are commands of the table: the operands a sender may give. -/

namespace Sys2Proof

/-- A write within the 64-byte window (R168). -/
def windowWrite (offset width value : Nat) : Bool :=
  offset < 64 && 0 < width && value < 256 ^ width

/-- A command as the table means it: a CONTROL code that is none of the four commands (R169), a
write of the window that no register takes (R168), and as many bytes as the read brings (R4, R7, R13, R39, R159). -/
def Instr.wellFormed (i : Instr) : Bool :=
  match i with
  | .start => true
  | .stop => true
  | .restart => true
  | .cold => true
  | .controlOtherCode code => controlCommand code == i
  | .nudge _ => true
  | .anchorWrite _ _ => true
  | .attnStatusWrite _ => true
  | .attnEnableWrite _ => true
  | .faultInfoWrite _ => true
  | .registerWriteIgnored offset width value => 
    windowWrite offset width value && decodeRegisterWrite offset width value == i
  | .resetPin => true
  | .linkReset _ => true
  | .tickAdvance => true
  | .pollTick => true
  | .pollExpiry => true
  | .quietExpiry _ => true
  | .holdOffEnd _ => true
  | .overdueExpiry _ => true
  | .anchorReadEnd data => data.length == 256
  | .anchorEngineWriteEnd => true
  | .cellFetchEnd data => data.length == 64
  | .stalledCellResume => true
  | .resultWriteEnd => true
  | .statusWriteEnd => true
  | .linkReadEnd data => data.length == 8
  | .retireWriteEnd => true
  | .chainErrorReply => true
  | .chainNoReply => true
  | .chainAbandonedWriteError _ => true
  | .nop => true
  | .seize => true
  | .crankback => true
  | .answer => true
  | .release => true
  | .queryContext => true
  | .reportChanges => true
  | .engineSet => true
  | .groupSet => true
  | .queryGroup => true
  | .profileSet => true
  | .agreeSet => true
  | .freeze => true
  | .queryCarrier => true
  | .periodClose => true
  | .invalidate => true
  | .clockSet => true
  | .bandSet => true
  | .fillCompletion data => data.length == 64 || data.length == 16
  | .fillFault => true
  | .fillNoReply => true
  | .openingReadEnd data => data.length == 16
  | .recordWriteEnd => true
  | .recordCountWriteEnd => true
  | .prefetchReadEnd data => data.length == 16
  | .closingHeaderWriteEnd => true
  | .mapEntryClearEnd => true
  | .journalEngineWriteEnd => true
  | .journalErrorReply => true
  | .journalNoReply => true
  | .journalAbandonedWriteError _ => true
  | .resetRelease _ => true

end Sys2Proof
end

