-- ==== Sys2Proof/Tests/Slice0.lean ====
section
/-! SUPPORT. Tests. Ill-formed commands that `wellFormed` refuses, the manual's worked examples and tables
as named theorems, and for every obligation with hypotheses the states and operands that meet them. -/

namespace Sys2Proof.Tests

open Sys2Proof Sys2Proof.Machine

-- The kernel evaluations below run one after another: side by side they outgrow the sandbox's memory.
set_option Elab.async false

/-! ## Ill-formed commands are refused (R168, R169) -/

theorem test_wf_code_of_start : (Instr.controlOtherCode 1).wellFormed = false := by decide
theorem test_wf_code_of_stop : (Instr.controlOtherCode 2).wellFormed = false := by decide
theorem test_wf_code_of_restart : (Instr.controlOtherCode 3).wellFormed = false := by decide
theorem test_wf_code_of_cold : (Instr.controlOtherCode 4).wellFormed = false := by decide
theorem test_wf_other_codes :
    (Instr.controlOtherCode 0).wellFormed = true ∧ (Instr.controlOtherCode 5).wellFormed = true := by
  decide
theorem test_wf_decoded_write : (Instr.registerWriteIgnored 0x0C 4 1).wellFormed = false := by decide
theorem test_wf_narrow_write : (Instr.registerWriteIgnored 0x0C 2 1).wellFormed = true := by decide
theorem test_wf_empty_write : (Instr.registerWriteIgnored 0x00 0 0).wellFormed = false := by decide
theorem test_wf_write_past_window : (Instr.registerWriteIgnored 64 4 0).wellFormed = false := by decide
theorem test_wf_write_too_wide : (Instr.registerWriteIgnored 0x2C 2 65536).wellFormed = false := by
  decide
theorem test_wf_anchor_bytes : (Instr.anchorReadEnd (List.replicate 255 0)).wellFormed = false := by
  decide +kernel
theorem test_wf_cell_bytes : (Instr.cellFetchEnd (List.replicate 63 0)).wellFormed = false := by
  decide
theorem test_wf_link_bytes : (Instr.linkReadEnd (List.replicate 9 0)).wellFormed = false := by decide
theorem test_wf_line_bytes : (Instr.fillCompletion (List.replicate 32 0)).wellFormed = false := by
  decide
theorem test_wf_map_bytes : (Instr.openingReadEnd (List.replicate 8 0)).wellFormed = false := by
  decide
theorem test_wf_prefetch_bytes : (Instr.prefetchReadEnd []).wellFormed = false := by decide

/-! ## Writes of the register window (R168, R169) -/

theorem test_control_codes :
    [0, 1, 2, 3, 4, 5].map (decodeRegisterWrite 0x0C 4)
      = [.controlOtherCode 0, .start, .stop, .restart, .cold, .controlOtherCode 5] := by decide
theorem test_write_offsets :
    [0x04, 0x08, 0x10, 0x18, 0x1C, 0x28].map (fun o => decodeRegisterWrite o 4 7)
      = [.anchorWrite .lo 7, .anchorWrite .hi 7, .nudge 7, .attnStatusWrite 7, .attnEnableWrite 7,
        .faultInfoWrite 7] := by decide
theorem test_write_of_status : decodeRegisterWrite 0x14 4 7 = .registerWriteIgnored 0x14 4 7 := by
  decide
theorem test_narrow_write : decodeRegisterWrite 0x0C 2 1 = .registerWriteIgnored 0x0C 2 1 := by decide

/-! ## The manual's tables -/

/-- The quote table of R143. -/
theorem test_quote_table :
    quoteOf 1850 160 = 2313 ∧ quoteOf 2100 128 = 2100 ∧ quoteOf 1600 144 = 1800 ∧
    quoteOf 3 64 = 2 ∧ quoteOf 1 192 = 2 ∧ quoteOf 1 191 = 1 := by decide

/-- The duration table of R145. -/
theorem test_charged_seconds_table :
    [0, 1, 100, 101, 9417, 12296].map chargedSeconds = [0, 1, 1, 2, 95, 123] := by decide

/-- The billed seconds of sections 10.8 and 10.9, owner side on 30 and 6, incoming side on 60 and 60. -/
theorem test_billed_table :
    [0, 1, 30, 31, 95, 123, 1050000].map (fun n => billedSeconds n 30 6)
      = [30, 30, 30, 36, 96, 126, 1048575] ∧
    [0, 31, 95, 123, 1050000].map (fun n => billedSeconds n 60 60)
      = [60, 60, 120, 180, 1048575] := by decide

/-- The amounts of sections 10.8 and 10.9. -/
theorem test_amount_table :
    amountOf 500 30 2313 = 1657 ∧ amountOf 500 0 2313 = 500 ∧ amountOf 500 36 2313 = 1888 ∧
    amountOf 500 96 2313 = 4201 ∧ amountOf 0 120 2400 = 4800 ∧ amountOf 500 126 2313 = 5357 ∧
    amountOf 500 1048575 2313 = 40423066 ∧ amountOf 0 1048575 2400 = 41943000 := by decide

/-- The rounding rows of R147. -/
theorem test_rounding_table :
    amountOf 0 1 90 = 2 ∧ amountOf 0 1 89 = 1 ∧ amountOf 0 1 288000 = 4800 ∧
    amountOf 0 1 63000 = 1050 ∧ amountOf 0 1 222048 = 3701 := by decide

/-- The saturating charge of R149: 1,000 below the maximum, 4,201 added. -/
theorem test_saturation :
    ((({ Account.zero with payable := 281474976709655 } : Account).addOut 4201 96).payable,
      (({ Account.zero with payable := 281474976709655 } : Account).addOut 4201 96).sat,
      (({ Account.zero with payable := 281474976709655 } : Account).addOut 1000 96).sat)
      = (281474976710655, true, false) := by decide

/-- The times of week of section 2.7 with their days, half-hours and table entries. -/
theorem test_band_entries :
    ([3000000, 32220000, 45000000, 60479999] : List TimeOfWeek).map
      (fun t => (dayOf t, halfHourOf t, (bandEntry t).val))
      = [(0, 16, 16), (3, 35, 179), (5, 10, 250), (6, 47, 335)] := by decide

/-- The tags of section 3.7, with carrier 9 in the DEFAULT grid. -/
theorem test_tariff_tags :
    ((State.reset.setAgreement 9 { Agreement.cold with override := 0b100000, grid := .default }).tariffTag
        5 2 3).index = 179 ∧
    ((State.reset.setAgreement 9 { Agreement.cold with override := 0b100000, grid := .default }).tariffTag
        9 2 3).index = 19 ∧
    (State.reset.tariffTag 12 2 3).index = 403 := by decide +kernel

/-- Area 212 of section 4.8. -/
def area212 : AreaEntry :=
  { valid := true, routeList := 40, distance := 3,
    refinements := [⟨2, 41, 3, [4, 5, 0, 0, 0]⟩, ⟨4, 42, 4, [4, 5, 3, 0, 0]⟩,
      ⟨2, 43, 5, [4, 5, 0, 0, 0]⟩, ⟨6, 44, 6, [4, 5, 3, 0, 9]⟩] }

/-- The worked matches of section 4.8: route list, distance band and refinement position. -/
theorem test_worked_matches :
    ([[2, 1, 2, 4, 5, 3, 0, 9, 1, 1], [2, 1, 2, 4, 5], [2, 1, 2, 4, 5, 3, 1], [2, 1, 2, 4, 5, 3],
      [2, 1, 2, 4], [2, 1, 2, 9, 8, 7, 6], [2, 1, 2], [2, 1, 2, 4, 5, 3, 0, 9, 0, 0]].map
      (fun d => ((analyse 212 d area212).routeList, (analyse 212 d area212).distance.val,
        (analyse 212 d area212).position)))
      = [(42, 4, 2), (41, 3, 1), (41, 3, 1), (41, 3, 1), (40, 3, 0), (40, 3, 0), (40, 3, 0),
        (42, 4, 2)] := by decide

/-! ## The congestion sequences of sections 6.10 and 6.11 -/

/-- Profile set 3 of section 6.10. -/
def set3 : Vector Control 4 :=
  #v[⟨16, 0, 0, 500, 16, 16⟩, ⟨12, 2, 1, 350, 24, 16⟩, ⟨8, 4, 2, 250, 32, 24⟩, ⟨4, 8, 3, 0, 0, 32⟩]

/-- Group 17 at rest with the level 0 profile of set 3 and K 4. -/
def group17 (m : Mode) : Group :=
  { Group.cold with isOpen := true, profileSet := 3, depth := .k4, mode := m, control := set3[0] }

/-- What the tables of 6.10 and 6.11 show of a group. -/
def shown (r : Group) : Option Nat × Nat × Option Tick × Option QuietTimer × ChangeFlag :=
  (r.fi, r.level.val, r.holdOffEnd, r.quiet, r.change)

/-- Pressure events at the ticks given. -/
def pressed (r : Group) (ticks : List Tick) : Group :=
  ticks.foldl (fun r t => (r.pressure set3 t).1) r

/-- Rows 10,600 to 11,500 of section 6.10: the step up at 490 and the pressure in hold-off. -/
theorem test_step_up :
    shown (pressed (group17 .auto) [10000, 10600, 11050, 11470])
      = (some 490, 1, some 11561, some ⟨980, 11470⟩, .level) ∧
    shown (pressed (group17 .auto) [10000, 10600, 11050, 11470, 11500])
      = (some 490, 1, some 11561, some ⟨980, 11500⟩, .level) := by decide +kernel

/-- The record of 12,450 in section 6.10, at level 2 with 1,020 ticks to run. -/
def at12450 : Group :=
  { group17 .auto with
    level := 2, control := set3[2], history := [600, 450, 420, 380, 300, 260],
    tLast := some 12410, quiet := some ⟨1020, 12450⟩, change := .level }

/-- The record after quiet expiries at the ticks given. -/
def expired (r : Group) (ticks : List Tick) : Group :=
  ticks.foldl (fun r t => (r.quietExpiry set3 t).1) r

/-- The expiries at 13,470, 14,150 and 14,830 of section 6.10. -/
theorem test_decay :
    shown (expired at12450 [13470]) = (some 340, 1, none, some ⟨680, 13470⟩, .level) ∧
    shown (expired at12450 [13470, 14150]) = (some 340, 0, none, some ⟨680, 14150⟩, .level) ∧
    shown (expired at12450 [13470, 14150, 14830]) = (none, 0, none, none, .level) := by
  refine ⟨?_, ?_, ?_⟩ <;> decide +kernel

/-- Rows 11,470 and 11,850 of section 6.11: HELD advises twice and stays at level 0. -/
theorem test_advise_up :
    shown (pressed (group17 .held) [10000, 10600, 11050, 11470])
      = (some 490, 0, some 11531, some ⟨980, 11470⟩, .adviseUp) ∧
    shown (pressed { pressed (group17 .held) [10000, 10600, 11050, 11470, 11500] with
        holdOffEnd := none } [11850])
      = (some 462, 0, some 11907, some ⟨924, 11850⟩, .adviseUp) := by decide +kernel

/-! ## The worked seizure of section 7.9 -/

/-- A cell of a kind, with NOTIFY set and operand fields at their offsets in the cell. -/
def cellOf (kind : Byte) (operands : List Field) : FetchedCell :=
  ⟨kind, true, layout 16 48 operands⟩

/-- The state with that cell dispatched. -/
def handed (kind : Byte) (operands : List Field) (s : State) : State :=
  { s with cc := { s.cc with
    state := .working, work := .dispatched, cell := some (cellOf kind operands) } }

/-- An open group of section 7.9. -/
def group79 (provisioned busy tier reserve altAdmit thinning : Nat) (owner : CarrierId) : Group :=
  { Group.cold with
    isOpen := true, owner := owner, provisioned := provisioned, busy := busy, thinning := thinning,
    control := { Control.cold with
      tier := Fin.ofNat 4 tier, reserve := reserve, altAdmit := altAdmit } }

/-- An active carrier with its own premium factors. -/
def carrier79 (premium : Vector Nat 4) : Agreement :=
  { Agreement.cold with active := true, override := 0b101000, premium := premium }

/-- The lines of section 7.9 as memory holds them. -/
def lines79 : List Line :=
  [⟨⟨.tariff, 179⟩, layout 0 16 [⟨0, 1, 1⟩, ⟨10, 3, 2400⟩]⟩,
    ⟨⟨.tariff, 19⟩, layout 0 16 [⟨0, 1, 1⟩, ⟨4, 3, 1600⟩]⟩,
    ⟨⟨.tariff, 403⟩, layout 0 16 [⟨0, 1, 1⟩, ⟨4, 3, 2100⟩]⟩,
    ⟨⟨.tariff, 467⟩, layout 0 16 [⟨0, 1, 1⟩, ⟨2, 2, 500⟩, ⟨4, 3, 1850⟩]⟩,
    ⟨⟨.tariff, 659⟩, layout 0 16 [⟨0, 1, 1⟩, ⟨4, 3, 2000⟩]⟩,
    ⟨⟨.route, 73⟩, layout 0 64 [⟨0, 1, 5⟩,
      ⟨8, 2, 17⟩, ⟨11, 1, 255⟩, ⟨16, 2, 96⟩, ⟨18, 1, 1⟩, ⟨19, 1, 255⟩,
      ⟨24, 2, 140⟩, ⟨26, 1, 1⟩, ⟨27, 1, 255⟩, ⟨32, 2, 140⟩, ⟨35, 1, 255⟩,
      ⟨40, 2, 205⟩, ⟨43, 1, 255⟩]⟩]

/-- The agreements and groups of section 7.9. -/
def records79 : State :=
  ((((((((State.reset.setAgreement 5 (carrier79 #v[128, 128, 128, 128])).setAgreement 9
    { carrier79 #v[128, 144, 128, 128] with grid := .default }).setAgreement 12
    (carrier79 #v[128, 128, 128, 128])).setAgreement 14
    (carrier79 #v[128, 128, 160, 128])).setAgreement 20
    (carrier79 #v[128, 128, 128, 128])).setGroup 17
    { group79 60 60 1 2 12 4 9 with holdOffEnd := some 99, quiet := some ⟨500, 0⟩ }).setGroup 96
    (group79 24 22 0 2 16 0 12)).setGroup 140
    (group79 40 9 2 4 8 10 14)).setGroup 205 (group79 30 12 0 0 16 0 20)

/-- The part of section 7.9 before the SEIZE: band 2 throughout, context 1207 of generation 3
at the head of the FIFO. -/
def before79 : State :=
  { records79 with
    cc := { State.reset.cc with anchor := { State.reset.cc.anchor with routeCount := 1024 } },
    tb := { State.reset.tb with now := 50, bands := Vector.replicate 336 2 },
    tau := ⟨lines79, none⟩,
    ct := { State.reset.ct with
      freeFifo := [1207, 8, 9],
      contexts := State.reset.ct.contexts.set 1207 { Context.cold with generation := 3 } } }

/-- The state a command leaves. -/
def after (c : Instr) (s : State) : State :=
  match exec c s with
  | .next t => t
  | .fault _ => s
  | .refused _ => s

/-- The state after the same command taken again and again: a walk takes one event each time. -/
def events : Nat → Instr → State → State
  | 0, _, s => s
  | n + 1, c, s => events n c (after c s)

/-- The bytes of the result area being written, from a cell offset. -/
def resultAt (s : State) (offset width : Nat) : Nat :=
  match s.cc.flight with
  | some ⟨.resultWrite _, ⟨_, _, .write data⟩⟩ => leNat data (offset - 64) width
  | _ => 0

/-- After the SEIZE of section 7.9: the stages, then its three choices, an event each. -/
def seized79 : State :=
  events 4 .seize (handed 1 [⟨16, 1, 5⟩, ⟨17, 1, 2⟩, ⟨18, 1, 1⟩, ⟨20, 4, 3000⟩, ⟨32, 2, 73⟩,
    ⟨34, 1, 3⟩] before79)

/-- Steps 1 to 3 of section 7.9: pressure on group 17, nothing on 96, the claim on 140. -/
theorem test_worked_seizure :
    ((seized79.group 17).pressures, (seized79.group 96).seizes, (seized79.group 140).busy,
      (seized79.group 140).thinning, (seized79.context 1207).quote, seized79.ct.freeFifo)
      = (1, 0, 10, 2, 2313, [8, 9]) := by decide +kernel

/-- The result of the SEIZE: handle 3:1207, group 140, three attempts FULL, RESERVED, ADMITTED. -/
theorem test_worked_seizure_result :
    [resultAt seized79 64 2, resultAt seized79 66 2, resultAt seized79 68 1, resultAt seized79 69 1,
      resultAt seized79 73 1, resultAt seized79 74 1, resultAt seized79 80 4, resultAt seized79 84 4,
      resultAt seized79 97 1, resultAt seized79 101 1, resultAt seized79 105 1]
      = [13495, 140, 14, 3, 3, 1, 2313, 2400, 8, 9, 0] := by decide +kernel

/-- After the first CRANKBACK of section 7.9: its pressure event, then choices 4 and 5. -/
def cranked79 : State := events 3 .crankback (handed 2 [⟨16, 2, 13495⟩] seized79)

/-- Steps 4 to 7: pressure on 140, the call on group 205 as choice 5 with count 1. -/
theorem test_worked_crankback :
    ((cranked79.group 140).busy, (cranked79.group 140).pressures, (cranked79.group 205).busy,
      (cranked79.context 1207).choice, (cranked79.context 1207).quote,
      (cranked79.context 1207).crankbacks) = (9, 1, 13, 5, 2000, 1) := by decide +kernel

/-- After the second CRANKBACK of section 7.9: its pressure event, then the end of the walk. -/
def crankedOut79 : State := events 2 .crankback (handed 2 [⟨16, 2, 13495⟩] cranked79)

/-- Steps 8 to 10: the second CRANKBACK frees the call with generation 4 at the tail. -/
theorem test_worked_crankback_end :
    (crankedOut79.ct.freeFifo, (crankedOut79.context 1207).generation,
      (crankedOut79.group 205).busy) = ([8, 9, 1207], 4, 12) := by decide +kernel

/-- The charged call of section 10.8 in context 1207. -/
def context108 : Context :=
  { Context.cold with
    state := .answered, generation := 3, incoming := 5, group := 140, owner := 14, tier := 2,
    quote := 2313, handoverSetup := 500, minOut := 30, incOut := 6, transitRate := 2400,
    transitSetup := 0, minIn := 60, incIn := 60, answerTick := some 4294960000,
    answerTime := some 3000000 }

/-- The figures of section 10.8: D, both billed seconds, P and R. -/
theorem test_charged_call :
    (let r := context108.charge 1207 ⟨1207, .normal, 4294960000 + 9417, false⟩
    [r.duration, r.billedOut, r.billedIn, r.payable, r.receivable, r.handle])
      = [9417, 96, 120, 4201, 4800, 13495] := by decide +kernel

/-- The call across a wrap of section 10.9. -/
theorem test_charge_across_wrap :
    (let r := context108.charge 1207 ⟨1207, .normal, 5000, false⟩
    [r.duration, r.billedOut, r.billedIn, r.payable, r.receivable])
      = [12296, 126, 180, 5357, 7200] := by decide +kernel

/-! ## Every statement's hypotheses are met

`handed` gives a dispatched cell, `flying` and `writing` an access in flight of CC and of JW. -/

theorem handed_inHand (k : RequestKind) (code : Byte) (ops : List Field) (s : State)
    (h : requestKind code = some k) : (handed code ops s).InHand k (cellOf code ops) :=
  ⟨rfl, rfl, rfl, h⟩

/-- A chain state, position-valid and a journal state on the reset state. -/
def chain (c : ChainState) (positionValid : Bool) (j : JournalState) : State :=
  { State.reset with
    cc := { State.reset.cc with state := c, positionValid := positionValid },
    jw := { State.reset.jw with state := j } }

/-- A CC access in flight on the reset state. -/
def flying (op : ChainOp) (t : Transfer) : State :=
  { State.reset with
    cc := { State.reset.cc with state := .fetching, flight := some ⟨op, ⟨256, 0, t⟩⟩ } }

/-- A JW access in flight on the reset state, with a hold store and a slot index. -/
def writing (op : JournalOp) (t : Transfer) (hold : List HoldEntry) (slot : Nat) : State :=
  { State.reset with
    jw := { State.reset.jw with
      state := .running, hold := hold, slot := slot, flight := some ⟨op, ⟨256, 0, t⟩⟩ } }

/-- A CHARGE record of the call of section 10.8. -/
def record108 : ChargeRecord := context108.charge 1207 ⟨1207, .normal, 0, false⟩

theorem witness_StepCarriesOutFrontCommand :
    ({ State.reset with pending := [.nop, .stop] } : State).pending = .nop :: [.stop] ∧
    State.reset.pending = [] := ⟨rfl, rfl⟩

theorem witness_BlocksChangeOnlyByTheirCommands :
    exec .nop State.reset = .next State.reset ∧ coldResets .nop = false ∧
    Instr.nop ∉ [Instr.profileSet, .tickAdvance, .bandSet, .clockSet, .restart, .invalidate, .agreeSet,
      .release, .stalledCellResume, .periodClose, .freeze, .seize, .crankback, .answer, .groupSet,
      .reportChanges, .engineSet, .fillFault, .fillNoReply, .pollTick] ∧
    (∀ d, Instr.nop ≠ .fillCompletion d) ∧ (∀ d, Instr.nop ≠ .anchorReadEnd d) ∧
    (∀ i, Instr.nop ≠ .overdueExpiry i) ∧ (∀ g, Instr.nop ≠ .quietExpiry g) ∧
    (∀ g, Instr.nop ≠ .holdOffEnd g) ∧ (∀ r, Instr.nop ≠ .resetRelease r) ∧
    (reach .nop).fill = false ∧ (reach .nop).journal = false ∧ (reach .nop).attention = false := by
  refine ⟨rfl, rfl, by decide, by simp, by simp, by simp, by simp, by simp, by simp, rfl, rfl, rfl⟩

theorem witness_BlocksChangeOnlyByTheirCommands_tick :
    exec .tickAdvance State.reset = .next (after .tickAdvance State.reset) ∧
    coldResets .tickAdvance = false ∧ (reach .tickAdvance).chain = false ∧
    (reach .tickAdvance).journal = false := ⟨rfl, rfl, rfl, rfl⟩

theorem witness_StartAndStopActByChainState :
    (chain .idle false .idle).inReset = false ∧ (chain .idle true .faulted).cc.positionValid = true ∧
    (chain .idle true .faulted).jw.state = .faulted ∧ (chain .idle true .running).jw.state = .running ∧
    (chain .waiting true .idle).cc.state = .waiting ∧ (chain .stalled true .idle).cc.state = .stalled ∧
    (chain .faulted true .idle).cc.state = .faulted := by
  and_intros <;> rfl

theorem witness_RestartAbandonsWorkAndFlushes :
    (chain .stalled true .running).inReset = false ∧
    (∀ b, (chain .stalled true .running).jw.flightOp ≠ some (.engineWrite b)) ∧
    (writing (.engineWrite false) (.write []) [] 1).jw.flightOp = some (.engineWrite false) ∧
    (writing (.engineWrite true) (.write []) [.periodEnd 0] 1).jw.flightOp
      = some (.engineWrite true) ∧
    (writing (.engineWrite true) (.write []) [.periodEnd 0] 1).jw.atPeriodEnd = true := by
  refine ⟨rfl, ?_, rfl, rfl, rfl⟩
  intro b h
  cases h

/-- A read abandoned leaves the list, a write joins its tail. -/
theorem witness_RestartAbandonsWorkAndFlushes_access :
    (⟨256, 0, .read 8⟩ : Access).transfer = .read 8 ∧
    (⟨256, 0, .write [1]⟩ : Access).transfer = .write [1] := ⟨rfl, rfl⟩

theorem witness_ColdResetLeavesResetState : State.reset.inReset = false := rfl

theorem witness_IgnoredWritesChangeNothing :
    ({ State.reset with resets := ⟨false, true⟩ } : State).inReset = true := rfl

theorem reset_pollSound : (chain .idle false .idle).PollSound :=
  ⟨(fun h => nomatch h), fun _ => rfl⟩

theorem witness_NudgeReachesChainAndJournal :
    (chain .waiting true .waitingPage).inReset = false ∧
    (chain .idle false .idle).PollSound ∧
    (chain .waiting true .waitingPage).cc.state = .waiting ∧
    (chain .waiting true .waitingPage).jw.state = .waitingPage ∧
    (chain .working true .opening).cc.state = .working ∧
    (chain .working true .opening).jw.state = .opening ∧
    (chain .faulted false .faulted).jw.state = .faulted :=
  ⟨rfl, reset_pollSound, rfl, rfl, rfl, rfl, rfl⟩

theorem witness_RegisterWritesAct :
    State.reset.inReset = false ∧ State.reset.cc.state = .idle ∧
    (chain .waiting true .idle).inReset = false ∧ (chain .waiting true .idle).cc.state ≠ .idle ∧
    (4 : Word32) = BitVec.ofNat 32 4 ∧ (0 : Word32) ∉ ([1, 2, 3, 4] : List Word32) ∧
    (5 : Word32) ∉ ([1, 2, 3, 4] : List Word32) ∧ (2 : Nat) ≠ 4 ∧
    (0x14 : Nat) ∉ [0x04, 0x08, 0x0C, 0x10, 0x18, 0x1C, 0x28] := by
  refine ⟨rfl, rfl, rfl, ?_, rfl, ?_, ?_, ?_, ?_⟩ <;> decide

theorem witness_RegisterReadsShowTheState :
    State.reset.afl.capture = none ∧
    ({ State.reset with afl := { State.reset.afl with
      capture := some ⟨256, .badLink, .chain, true⟩ } } : State).afl.capture
      = some ⟨256, .badLink, .chain, true⟩ ∧
    (2 : Nat) ≠ 4 ∧ 0x2C ≤ (0x2C : Nat) := by
  refine ⟨rfl, rfl, by decide, by decide⟩

/-- A waiting chain with poll period 2 and a poll counter. -/
def polled (counter : Nat) : State :=
  { chain .waiting true .waitingPage with
    cc := { (chain .waiting true .waitingPage).cc with
      anchor := { State.reset.cc.anchor with pollPeriod := 2 } },
    tb := { State.reset.tb with pollCounter := counter } }

theorem witness_PollTicksCountAndExpire :
    State.reset.pollCounting = false ∧ (polled 0).pollCounting = true ∧
    (polled 0).tb.pollCounter + 1 < (polled 0).cc.anchor.pollPeriod ∧
    (polled 1).pollCounting = true ∧
    (polled 1).cc.anchor.pollPeriod ≤ (polled 1).tb.pollCounter + 1 ∧
    (polled 1).cc.state = .waiting ∧ (polled 1).jw.state = .waitingPage := by
  refine ⟨rfl, rfl, by decide +kernel, rfl, by decide +kernel, rfl, rfl⟩

theorem witness_ClockSetAndBandSetWriteTheTimebase_clock :
    (handed 0x21 [⟨16, 1, 1⟩, ⟨20, 4, 60480000⟩] State.reset).InHand .clockSet
      (cellOf 0x21 [⟨16, 1, 1⟩, ⟨20, 4, 60480000⟩]) ∧
    (cellOf 0x21 [⟨16, 1, 1⟩, ⟨20, 4, 60480000⟩]).flag 16 = true ∧
    60480000 ≤ (cellOf 0x21 [⟨16, 1, 1⟩, ⟨20, 4, 60480000⟩]).operand 20 4 ∧
    (cellOf 0x21 [⟨16, 1, 1⟩, ⟨20, 4, 60479999⟩]).operand 20 4 = 60479999 ∧
    (cellOf 0x21 []).flag 16 = false := by
  refine ⟨handed_inHand _ _ _ _ rfl, ?_, ?_, ?_, ?_⟩ <;> decide +kernel

theorem witness_ClockSetAndBandSetWriteTheTimebase_bands :
    (handed 0x22 [⟨58, 1, 3⟩] State.reset).InHand .bandSet (cellOf 0x22 [⟨58, 1, 3⟩]) ∧
    2 < (cellOf 0x22 [⟨58, 1, 3⟩]).operand (52 + 6) 1 ∧
    ∀ d < 7, (cellOf 0x22 [⟨58, 1, 2⟩]).operand (52 + d) 1 ≤ 2 := by
  refine ⟨handed_inHand _ _ _ _ rfl, ?_, ?_⟩ <;> decide +kernel

/-- An anchor block with one cell of request area. -/
def anchorBytes (lowBound routeCount : Nat) : List Byte :=
  layout 0 256 [⟨0, 4, 0x3134524F⟩, ⟨4, 1, 2⟩, ⟨8, 8, 128⟩, ⟨16, 8, lowBound⟩, ⟨24, 8, 256⟩,
    ⟨64, 2, routeCount⟩, ⟨66, 2, 1⟩]

theorem witness_AnchorLoadsAndEngineHalfEndsTakeTheCell :
    (flying .anchorRead (.read 256)).cc.flight = some ⟨.anchorRead, ⟨256, 0, .read 256⟩⟩ ∧
    (anchorFieldsOf (anchorBytes 128 2048)).valid = true ∧
    (anchorFieldsOf (anchorBytes 256 1)).valid = false ∧
    (anchorFieldsOf (anchorBytes 128 2049)).valid = false ∧
    (∀ b, (flying .anchorRead (.read 256)).jw.flightOp ≠ some (.engineWrite b)) ∧
    (flying .anchorEngineWrite (.write [])).cc.flight = some ⟨.anchorEngineWrite, ⟨256, 0, .write []⟩⟩ ∧
    (flying (.retireWrite 128) (.write [])).cc.flight
      = some ⟨.retireWrite 128, ⟨256, 0, .write []⟩⟩ := by
  refine ⟨rfl, by decide +kernel, by decide +kernel, by decide +kernel, ?_, rfl, rfl⟩
  intro b h
  cases h

/-- The end of an anchor read finds JW's engine-half write in flight. -/
def anchoring (periodEnd : Bool) (hold : List HoldEntry) : State :=
  { writing (.engineWrite periodEnd) (.write []) hold 1 with
    cc := (flying .anchorRead (.read 256)).cc }

theorem witness_AnchorLoadsAndEngineHalfEndsTakeTheCell_engineWrite :
    (anchoring false []).cc.flight = some ⟨.anchorRead, ⟨256, 0, .read 256⟩⟩ ∧
    (anchoring false []).jw.flightOp = some (.engineWrite false) ∧
    (anchoring true [.periodEnd 0]).cc.flight = some ⟨.anchorRead, ⟨256, 0, .read 256⟩⟩ ∧
    (anchoring true [.periodEnd 0]).jw.flightOp = some (.engineWrite true) ∧
    (anchoring true [.periodEnd 0]).jw.atPeriodEnd = true := ⟨rfl, rfl, rfl, rfl, rfl⟩

/-- R160, R164, R165: such a read takes step 4 of the PERIOD_END close, with PAGE and PERIOD. -/
theorem test_valid_anchor_takes_step_4 :
    (let t := after (.anchorReadEnd (anchorBytes 128 1)) (anchoring true [.periodEnd 0])
    (t.jw.hold, t.jw.period, t.afl.status)) = ([], 1, 0b010100) := by decide +kernel

/-- A fetched cell of a kind and a status. -/
def cellBytes (kind status : Nat) : List Byte := layout 0 64 [⟨8, 1, kind⟩, ⟨9, 1, 1⟩, ⟨10, 1, status⟩]

theorem witness_CellFetchDispatchesPostedCells :
    (flying .cellFetch (.read 64)).cc.flight = some ⟨.cellFetch, ⟨256, 0, .read 64⟩⟩ ∧
    (cellOf 0x22 []).kind = byteAt (cellBytes 0x22 1) 8 ∧
    (cellOf 0x22 []).notify = (byteAt (cellBytes 0x22 1) 9).getLsbD 0 ∧
    (cellOf 0x22 []).operands
      = (List.range 48).map (fun n => byteAt (cellBytes 0x22 1) (16 + n)) ∧
    byteAt (cellBytes 0x22 1) 10 = 1 ∧ (requestKind 0x22).isSome = true ∧ requestKind 0x23 = none ∧
    byteAt (cellBytes 0x22 2) 10 ≠ 1 := by
  and_intros <;> first | rfl | decide +kernel

theorem witness_CellFetchDispatchesPostedCells_unknown :
    ∀ b ∈ ([0x08, 0x0F, 0x13, 0x17, 0x1C, 0x1F, 0x23, 0xFF] : List Byte),
      0x07 < b.toNat ∧ b.toNat < 0x10 ∨ 0x12 < b.toNat ∧ b.toNat < 0x18 ∨
        0x1B < b.toNat ∧ b.toNat < 0x20 ∨ 0x22 < b.toNat := by decide

theorem witness_CompletionWritesInOrder :
    (flying (.resultWrite .ok) (.write [])).cc.flight = some ⟨.resultWrite .ok, ⟨256, 0, .write []⟩⟩ ∧
    (flying .statusWrite (.write [])).cc.flight = some ⟨.statusWrite, ⟨256, 0, .write []⟩⟩ ∧
    ({ flying .statusWrite (.write []) with
      cc := { (flying .statusWrite (.write [])).cc with
        cell := some (cellOf 0 []), stopPending := true } } : State).cc.cell = some (cellOf 0 []) ∧
    (flying .statusWrite (.write [])).cc.stopPending = false := by
  and_intros <;> rfl

/-- The bytes of a field are little-endian, and a byte that no field covers is 0. -/
theorem test_layout_bytes : layout 64 4 [⟨65, 2, 0x1234⟩] = [0, 0x34, 0x12, 0] := by decide

theorem witness_CompletionWritesInOrder_layout :
    ([⟨64, 2, 1⟩, ⟨66, 1, 2⟩] : List Field) = [⟨64, 2, 1⟩] ++ ⟨66, 1, 2⟩ :: [] ∧
    (∀ g ∈ ([⟨64, 2, 1⟩] : List Field), 64 + 2 < g.offset ∨ g.offset + g.width ≤ 64 + 2) ∧
    66 ≤ 64 + 2 ∧ 64 + 2 < 66 + 1 ∧
    ∀ g ∈ ([⟨64, 2, 1⟩, ⟨66, 1, 2⟩] : List Field), 64 + 3 < g.offset ∨ g.offset + g.width ≤ 64 + 3 := by
  decide

/-- A chain on a request area 128..511 with cell 256 held, reading its link. -/
def linking (stop nudge : Bool) : State :=
  { flying .linkRead (.read 8) with
    cc := { (flying .linkRead (.read 8)).cc with
      held := 256, stopPending := stop, nudgeSeen := nudge,
      anchor := { State.reset.cc.anchor with lowBound := 128, highBound := 512 } } }

theorem witness_LinkReadActsInOrder :
    (linking true false).cc.flight = some ⟨.linkRead, ⟨256, 0, .read 8⟩⟩ ∧
    (linking true false).cc.stopPending = true ∧ (linking false true).cc.nudgeSeen = true ∧
    (linking false false).cc.stopPending = false ∧
    (BitVec.ofNat 64 (leNat (layout 0 8 [⟨0, 8, 0⟩]) 0 8) : Addr) = 0 ∧
    (BitVec.ofNat 64 (leNat (layout 0 8 [⟨0, 8, 384⟩]) 0 8) : Addr) = 384 ∧
    (∀ n : Addr, n = 128 ∨ n = 384 → n ≠ 0 ∧ n.toNat % 128 = 0 ∧
      (linking false false).cc.anchor.lowBound.toNat ≤ n.toNat ∧
      n.toNat < (linking false false).cc.anchor.highBound.toNat ∧ n ≠ (linking false false).cc.held) ∧
    (linking false false).cc.anchor.highBound.toNat ≤ (512 : Addr).toNat := by
  refine ⟨rfl, rfl, rfl, rfl, by decide +kernel, by decide +kernel, ?_, by decide +kernel⟩
  rintro n (rfl | rfl) <;> decide +kernel

theorem witness_AccessFaultsStopTheirAgent :
    (flying .linkRead (.read 8)).cc.flight = some ⟨.linkRead, ⟨256, 0, .read 8⟩⟩ ∧
    (flying .statusWrite (.write [2, 0])).cc.flight
      = some ⟨.statusWrite, ⟨256, 0, .write [2, 0]⟩⟩ ∧
    (writing .prefetch (.read 16) [] 49).jw.flight = some ⟨.prefetch, ⟨256, 0, .read 16⟩⟩ ∧
    (∀ b, JournalOp.prefetch ≠ .engineWrite b) ∧
    (writing .header (.write []) [] 1).jw.flight = some ⟨.header, ⟨256, 0, .write []⟩⟩ ∧
    ({ State.reset with cc := { State.reset.cc with
      abandoned := [⟨128, 10, .write []⟩] } } : State).cc.abandoned[0]? = some ⟨128, 10, .write []⟩ ∧
    ({ State.reset with jw := { State.reset.jw with
      abandoned := [⟨128, 10, .write []⟩] } } : State).jw.abandoned[0]?
      = some ⟨128, 10, .write []⟩ := by
  refine ⟨rfl, rfl, rfl, by simp, rfl, rfl, rfl⟩

theorem witness_NopCompletesWithOk : (handed 0 [⟨16, 1, 255⟩] State.reset).InHand .nop (cellOf 0 [⟨16, 1, 255⟩]) :=
  handed_inHand _ _ _ _ rfl

/-- A seizure of carrier 5 past stage 4. -/
def call5 : SeizeCall := ⟨5, 2, 0⟩

/-- A fill in flight with its requester, and call 7 SEIZED. -/
def filling (r : Requester) : State :=
  { State.reset.setContext 7 { Context.cold with state := .seized } with
    cc := { State.reset.cc with
      state := .working, work := .awaitingLine, cell := some (cellOf 1 []) },
    tau := ⟨[], some ⟨⟨.route, 73⟩, 4096, r⟩⟩ }

/-- The same at stage 4, with the digits 2, 1, 2. -/
def request212 : SeizeRequest := ⟨call5, .digits [2, 1, 2]⟩

/-- The analysis of an OVERRIDE to list 73, and the terms on it. -/
def override73 : Analysis := ⟨.override, 0, none, 73, 3⟩
def terms73 : SeizeTerms := ⟨call5, override73, 2, 2400, 0⟩

/-- A walk of that seizure on its first choice. -/
def walk73 : Walk := ⟨.seize terms73, [], ⟨1, 140, false, 4⟩, []⟩

theorem witness_FillCompletionInstallsLine :
    (filling (.transit call5 override73 2)).tau.fill
      = some ⟨⟨.route, 73⟩, 4096, .transit call5 override73 2⟩ := rfl

theorem witness_FillFaultInstallsNothing :
    (filling (.area request212)).tau.fill = some ⟨⟨.route, 73⟩, 4096, .area request212⟩ ∧
    request212.address = .digits (2 :: 1 :: 2 :: []) ∧
    (filling (.transit call5 override73 2)).tau.fill
      = some ⟨⟨.route, 73⟩, 4096, .transit call5 override73 2⟩ ∧
    (filling (.route terms73)).tau.fill = some ⟨⟨.route, 73⟩, 4096, .route terms73⟩ ∧
    (filling (.crankRoute 7)).tau.fill = some ⟨⟨.route, 73⟩, 4096, .crankRoute 7⟩ ∧
    (filling (.owner walk73)).tau.fill = some ⟨⟨.route, 73⟩, 4096, .owner walk73⟩ ∧
    (filling (.crankRoute 7)).cc.state = .working ∧
    ((filling (.crankRoute 7)).context 7).state ≠ .free := by
  refine ⟨rfl, rfl, rfl, rfl, rfl, rfl, rfl, ?_⟩
  decide +kernel

/-- A crankback that waits for its route list frees call 7 when the fill faults. -/
theorem test_fill_fault_frees_crankback :
    (((after .fillFault (filling (.crankRoute 7))).context 7).state,
      (after .fillFault (filling (.crankRoute 7))).cc.state,
      (after .fillFault (filling (.crankRoute 7))).afl.status) = (.free, .working, 0b100000) := by
  decide +kernel

/-- An INVALIDATE cell. -/
def invalidation (mask present index : Nat) : FetchedCell :=
  cellOf 0x20 [⟨16, 1, mask⟩, ⟨17, 1, present⟩, ⟨18, 2, index⟩]

theorem witness_InvalidateDropsNamedLines :
    (handed 0x20 [⟨16, 1, 7⟩, ⟨17, 1, 0⟩, ⟨18, 2, 0⟩] State.reset).InHand .invalidate
      (invalidation 7 0 0) ∧
    8 ≤ (invalidation 8 0 0).operand 16 1 ∧
    (2047 < (invalidation 6 1 2048).operand 18 2 ∧ (invalidation 6 1 2048).flag 17 = true) ∧
    ((invalidation 1 1 1000).operand 16 1).testBit 0 = true ∧
    999 < (invalidation 1 1 1000).operand 18 2 ∧
    ¬ (8 ≤ (invalidation 1 1 999).operand 16 1 ∨ 999 < (invalidation 1 1 999).operand 18 2) ∧
    ¬ (8 ≤ (invalidation 6 1 2047).operand 16 1 ∨ 2047 < (invalidation 6 1 2047).operand 18 2) := by
  refine ⟨handed_inHand _ _ _ _ rfl, ?_, ?_, ?_, ?_, ?_, ?_⟩ <;> decide +kernel

/-- GROUP_SET cells: a mask and a value for one item. -/
def groupCell (group mask offset width value : Nat) : FetchedCell :=
  cellOf 0x10 [⟨16, 2, group⟩, ⟨18, 2, mask⟩, ⟨offset, width, value⟩]

/-- A request that names one level, with its mode when that is named too. -/
def levelRequest (m : Option Mode) : GroupRequest :=
  { group := 511, provisioned := none, owner := none, profileSet := none, depth := none, mode := m,
    level := some 3, isOpen := none, reapply := false, resetHistory := false, clearCounts := false }

theorem witness_GroupSetRefusesOrWritesNamedItems :
    (handed 0x10 [⟨16, 2, 511⟩, ⟨18, 2, 0x20⟩, ⟨26, 1, 3⟩] State.reset).InHand .groupSet
      (groupCell 511 0x20 26 1 3) ∧
    (groupCell 512 0 20 2 0).groupRequest = none ∧ (groupCell 0 1024 20 2 0).groupRequest = none ∧
    (groupCell 0 2 22 1 64).groupRequest = none ∧ (groupCell 0 4 23 1 16).groupRequest = none ∧
    (groupCell 0 8 24 1 4).groupRequest = none ∧ (groupCell 0 16 25 1 2).groupRequest = none ∧
    (groupCell 0 32 26 1 4).groupRequest = none ∧ (groupCell 0 64 27 1 2).groupRequest = none ∧
    (groupCell 511 0x20 26 1 3).groupRequest = some (levelRequest none) ∧
    (levelRequest none).mode.getD (State.reset.group 511).mode = .auto ∧
    (groupCell 511 0x30 25 2 0x301).groupRequest = some (levelRequest (some .held)) ∧
    (levelRequest (some .held)).mode.getD (State.reset.group 511).mode = .held := by
  refine ⟨handed_inHand _ _ _ _ rfl, ?_, ?_, ?_, ?_, ?_, ?_, ?_, ?_, ?_, ?_, ?_, ?_⟩ <;>
    decide +kernel

/-- A PROFILE_SET cell of every field. -/
def profileCell (set level mask : Nat) : FetchedCell :=
  cellOf 0x12 [⟨16, 1, set⟩, ⟨17, 1, level⟩, ⟨18, 1, mask⟩, ⟨20, 1, 17⟩, ⟨24, 2, 7⟩]

theorem witness_ProfileSetClampsNamedFields :
    (handed 0x12 [⟨16, 1, 15⟩, ⟨17, 1, 3⟩, ⟨18, 1, 63⟩, ⟨20, 1, 17⟩, ⟨24, 2, 7⟩] State.reset).InHand
      .profileSet (profileCell 15 3 63) ∧
    15 < (profileCell 16 0 0).operand 16 1 ∧ 3 < (profileCell 0 4 0).operand 17 1 ∧
    64 ≤ (profileCell 0 0 64).operand 18 1 ∧
    (profileCell 15 3 63).operand 16 1 = (15 : SetId).val ∧
    (profileCell 15 3 63).operand 17 1 = (3 : Level).val ∧
    (profileCell 15 3 63).operand 18 1 < 64 := by
  refine ⟨handed_inHand _ _ _ _ rfl, ?_, ?_, ?_, ?_, ?_, ?_⟩ <;> decide +kernel

theorem witness_PressureTakesOneCourse :
    ({ group17 .auto with holdOffEnd := some 5 } : Group).holdOffEnd = some 5 ∧
    (group17 .auto).holdOffEnd = none ∧ (group17 .auto).tLast = none := by
  and_intros <;> rfl

/-- A group with T_last 0 whose capture at 500 equals its STEP_INTERVAL, at a level. -/
def stepping (l : Level) (m : Mode) : Group := { group17 m with level := l, tLast := some 0 }

theorem witness_CaptureMeasuresAndSteps :
    (stepping 2 .auto).holdOffEnd = none ∧ (stepping 2 .auto).tLast = some 0 ∧
    ([] ++ [max 1 (min 65535 ((500 : Tick) - 0).toNat)] : List Nat) = [500] ∧
    (([500] : List Nat).drop (1 - min 1 (stepping 2 .auto).depth.value)).sum
      / min 1 (stepping 2 .auto).depth.value = 500 ∧
    (stepping 2 .auto).level.val < 3 ∧ 500 ≤ (stepping 2 .auto).control.stepInterval ∧
    (3 : Level).val = (stepping 2 .auto).level.val + 1 ∧ (stepping 2 .held).mode = .held ∧
    ¬ ((stepping 3 .auto).level.val < 3) ∧ ¬ 501 ≤ (stepping 2 .auto).control.stepInterval := by
  and_intros <;> decide +kernel

/-- Group 511 with a quiet timer of 100 ticks started at 0 and a hold-off to 100, context 4095 seized at
0, the answer limit 1 s, read at the tick, and now 100. -/
def expiring (l : Level) (m : Mode) : State :=
  { (State.reset.setGroup 511 { stepping l m with
      quiet := some ⟨100, 0⟩, holdOffEnd := some 100 }).setContext 4095
      { Context.cold with state := .seized } with
    tb := { State.reset.tb with now := 100 },
    ct := { (State.reset.setContext 4095 { Context.cold with state := .seized }).ct with
      answerLimit := 1, limitAtTick := 1 } }

theorem witness_ExpiriesActOnTheirRecord :
    ((expiring 0 .auto).group 511).quiet = some ⟨100, 0⟩ ∧
    100 ≤ ((expiring 0 .auto).now - 0).toNat ∧ ((expiring 0 .auto).group 511).level = 0 ∧
    ((expiring 1 .auto).group 511).level.val = (0 : Level).val + 1 ∧
    ((expiring 1 .held).group 511).mode = .held ∧ ((expiring 1 .held).group 511).level ≠ 0 ∧
    ((expiring 0 .auto).group 511).holdOffEnd = some (expiring 0 .auto).now ∧
    (expiring 0 .auto).ct.answerLimit ≠ 0 ∧ (expiring 0 .auto).ct.limitAtTick = 1 ∧
    ((expiring 0 .auto).context 4095).state = .seized ∧
    ((expiring 0 .auto).context 4095).overdue = false ∧
    ((expiring 0 .auto).context 4095).overdueReported = false ∧
    (expiring 0 .auto).ct.answerLimit * 100
      ≤ ((expiring 0 .auto).now - ((expiring 0 .auto).context 4095).seizeTick).toNat := by
  and_intros <;> decide +kernel

theorem witness_TickAdvancesBothCounts :
    (expiring 1 .auto).inReset = false ∧ (expiring 1 .auto).QuietDue 511 ⟨100, 0⟩ ∧
    ((expiring 1 .auto).group 511).mode = .auto ∧
    ((expiring 1 .auto).group 511).level.val = (0 : Level).val + 1 ∧
    ((expiring 0 .auto).group 511).level = 0 ∧ (expiring 0 .auto).QuietDue 511 ⟨100, 0⟩ ∧
    ((expiring 1 .held).group 511).mode = .held ∧ ((expiring 1 .held).group 511).level ≠ 0 ∧
    (expiring 1 .held).QuietDue 511 ⟨100, 0⟩ ∧
    ((expiring 1 .auto).group 511).holdOffEnd = some (expiring 1 .auto).now ∧
    (expiring 1 .auto).OverdueBy (expiring 1 .auto).ct.limitAtTick 4095 ∧
    ¬ (expiring 1 .auto).OverdueBy (expiring 1 .auto).ct.limitAtTick 0 := by
  unfold State.QuietDue State.OverdueBy
  and_intros <;> decide +kernel

theorem witness_TickAdvancesBothCounts_notDue :
    (∀ q, ¬ State.reset.QuietDue 0 q) ∧
    ¬ ((∃ g q, State.reset.QuietDue g q ∧ (State.reset.group g).level ≠ 0)
      ∨ ∃ i, State.reset.OverdueBy State.reset.ct.limitAtTick i) := by
  have h : ∀ g, (State.reset.group g).quiet = none := by
    intro g
    simp [State.group, State.reset, Group.cold]
  refine ⟨?_, ?_⟩
  · rintro q ⟨hq, _⟩
    rw [h] at hq
    cases hq
  · rintro (⟨g, q, ⟨hq, _⟩, _⟩ | ⟨i, hl, _⟩)
    · rw [h] at hq
      cases hq
    · exact hl rfl

/-- A tick takes the expiries due at its old now: group 511 steps down and leaves hold-off, context 4095
is marked overdue. -/
theorem test_tick_takes_due_expiries :
    (((after .tickAdvance (expiring 1 .auto)).group 511).level,
      ((after .tickAdvance (expiring 1 .auto)).group 511).holdOffEnd,
      ((after .tickAdvance (expiring 1 .auto)).context 4095).overdue)
      = (0, none, true) := by
  have h : after .tickAdvance (expiring 1 .auto)
      = (expiring 1 .auto).takeGroupExpiries.takeOverdueExpiries.advanceTick := by
    unfold after
    rw [show exec .tickAdvance (expiring 1 .auto) = _ from execTickAdvance_eq rfl]
  rw [h, State.group_congr (by simp : _ = (expiring 1 .auto).takeGroupExpiries.groups)]
  simp only [State.takeGroupExpiries_group, State.advanceTick_context,
    State.takeOverdueExpiries_context, State.takeOverdue_eq, State.takeGroupExpiries_ct,
    State.now, State.takeGroupExpiries_tb,
    State.context_congr (State.takeGroupExpiries_ct _)]
  decide +kernel

theorem witness_LongestEarliestRefinementWins :
    (∀ r ∈ area212.refinements, r.digits.length = 5) ∧
    (∀ r ∈ area212.refinements, r.fits [2, 1, 2] = false) ∧
    ∃ r ∈ area212.refinements, r.fits [2, 1, 2, 4, 5] = true := by
  and_intros <;> decide +kernel

/-- The operands of a SEIZE of carrier 5 with two digits. -/
def twoDigits : List Field := [⟨16, 1, 5⟩, ⟨17, 1, 2⟩, ⟨19, 1, 2⟩, ⟨24, 1, 0x12⟩]

/-- Carrier 5 active with a credit limit of 1,000 of its own and a receivable. -/
def credited (active : Bool) (receivable : Nat) : State :=
  { (State.reset.setAgreement 5 { Agreement.cold with
      active := active, override := 0b010000, creditLimit := 1000 }).setAccount 5
      { Account.zero with receivable := receivable } with
    ct := { State.reset.ct with freeFifo := [7] } }

theorem witness_SeizeRefusesEarly :
    (handed 1 twoDigits (credited true 1000)).InHand .seize (cellOf 1 twoDigits) ∧
    (cellOf 1 [⟨16, 1, 64⟩]).seizeRequest = none ∧ (cellOf 1 [⟨17, 1, 8⟩]).seizeRequest = none ∧
    (cellOf 1 [⟨18, 1, 2⟩]).seizeRequest = none ∧ (cellOf 1 [⟨19, 1, 17⟩]).seizeRequest = none ∧
    (cellOf 1 [⟨19, 1, 1⟩, ⟨24, 1, 10⟩]).seizeRequest = none ∧
    (cellOf 1 [⟨18, 1, 1⟩, ⟨32, 2, 2048⟩]).seizeRequest = none ∧
    (cellOf 1 [⟨18, 1, 1⟩, ⟨34, 1, 8⟩]).seizeRequest = none ∧
    (cellOf 1 twoDigits).seizeRequest = some ⟨⟨5, 2, 0⟩, .digits [2, 1]⟩ ∧
    (State.reset.setFifo []).ct.freeFifo = [] ∧
    (credited true 1000).ct.freeFifo ≠ [] ∧ ((credited false 0).agreement 5).active = false ∧
    ((credited true 1000).agreement 5).active = true ∧
    (credited true 1000).effCreditLimit 5 ≠ 0 ∧
    (credited true 1000).effCreditLimit 5 ≤ ((credited true 1000).account 5).receivable ∧
    ((credited true 999).account 5).receivable < (credited true 999).effCreditLimit 5 ∧
    ([2, 1] : List Nat).length < 3 := by
  refine ⟨handed_inHand _ _ _ _ rfl, ?_, ?_, ?_, ?_, ?_, ?_, ?_, ?_, ?_, ?_, ?_, ?_, ?_, ?_, ?_, ?_⟩ <;>
    first | rfl | decide +kernel

/-- A route list of two choices, on group 140 and, ALTERNATE and for class 2 alone, on group 17. -/
def route73 : List Byte :=
  layout 0 64 [⟨0, 1, 2⟩, ⟨8, 2, 140⟩, ⟨11, 1, 4⟩, ⟨16, 2, 17⟩, ⟨18, 1, 1⟩, ⟨19, 1, 4⟩]

/-- A route list of the second of those choices alone. -/
def route74 : List Byte := layout 0 64 [⟨0, 1, 1⟩, ⟨8, 2, 17⟩, ⟨10, 1, 1⟩, ⟨11, 1, 4⟩]

/-- Group 17 with just enough for an ALTERNATE choice: idle 2 over RESERVE 1, 15 and 1 to thin. -/
def groupAtBound : Group := group79 2 0 0 1 1 15 9

/-- Call 7 on group 140, choice 1 of list 73, moved once. -/
def call7 : Context :=
  { Context.cold with
    state := .seized, generation := 3, group := 140, choice := 1, crankbacks := 1, incoming := 5,
    cls := 2, ceiling := 1600, band := 2, distance := 3, routeList := 73 }

/-- The part with carrier 5 just below its limit, the lines of both carriers and the two lists held. -/
def routing : State :=
  { (((credited true 999).setAgreement 9 (carrier79 #v[128, 128, 128, 128])).setGroup 17
      groupAtBound).setGroup 140 (group79 1 1 0 0 16 0 9) with
    cc := { State.reset.cc with anchor := { State.reset.cc.anchor with routeCount := 75 } },
    tb := { State.reset.tb with bands := Vector.replicate 336 2 },
    tau := ⟨[⟨⟨.tariff, 179⟩, layout 0 16 [⟨0, 1, 1⟩, ⟨10, 3, 2400⟩]⟩,
      ⟨⟨.tariff, 307⟩, layout 0 16 [⟨0, 1, 1⟩, ⟨4, 3, 1600⟩]⟩, ⟨⟨.route, 73⟩, route73⟩,
      ⟨⟨.route, 74⟩, route74⟩], none⟩,
    ct := { State.reset.ct with
      freeFifo := [8], contexts := State.reset.ct.contexts.set 7 call7 } }

/-- The operands of a SEIZE of carrier 5, class 2, ceiling 1,600, OVERRIDE to list 74, distance 3. -/
def override74 : List Field :=
  [⟨16, 1, 5⟩, ⟨17, 1, 2⟩, ⟨18, 1, 1⟩, ⟨20, 4, 1600⟩, ⟨32, 2, 74⟩, ⟨34, 1, 3⟩]

/-- The one choice of list 74. -/
def choice17 (number : Nat) : Choice := ⟨number, 17, true, 4⟩

/-- The part before the choices of a walk, with carrier 9 the owner of both groups. -/
def walking (p : WalkFor) (choices : List Choice) : State :=
  { routing with cc := { routing.cc with
    state := .working, cell := some (cellOf 1 []), work := .walking p [] choices } }

/-- The terms that a SEIZE with those operands finds, with a ceiling. -/
def terms (ceiling : Nat) : SeizeTerms :=
  ⟨⟨5, 2, ceiling⟩, ⟨.override, 0, none, 74, 3⟩, 2, 2400, 0⟩

/-- The part waiting for the owner's line of a choice of a walk. -/
def awaiting (p : WalkFor) (choice : Choice) : State :=
  { routing with
    cc := { routing.cc with
      state := .working, cell := some (cellOf 1 []), work := .awaitingLine },
    tau := { routing.tau with fill := some ⟨⟨.tariff, 307⟩, 4912, .owner ⟨p, [], choice, []⟩⟩ } }

/-- The bytes of carrier 9's line. -/
def line307 : List Byte := layout 0 16 [⟨0, 1, 1⟩, ⟨4, 3, 1600⟩]

theorem witness_SeizeAdmitsFirstPassingChoice :
    (walking (.seize (terms 1600)) [choice17 1]).WalkInHand (.seize (terms 1600)) []
      [choice17 1] ∧
    (walking (.seize (terms 1600)) []).WalkInHand (.seize (terms 1600)) [] [] ∧
    (walking (.seize (terms 1600)) [choice17 1]).ct.freeFifo = [8] ∧
    (walking (.seize (terms 1600)) [choice17 1]).lookup
      ((walking (.seize (terms 1600)) [choice17 1]).tariffTag 9 2 3) = some line307 ∧
    ((walking (.seize (terms 1600)) [choice17 1]).group 17).owner = 9 ∧
    (awaiting (.seize (terms 1600)) (choice17 1)).tau.fill
      = some ⟨⟨.tariff, 307⟩, 4912, .owner ⟨.seize (terms 1600), [], choice17 1, []⟩⟩ ∧
    (awaiting (.seize (terms 1600)) (choice17 1)).ct.freeFifo = [8] ∧
    line307 = (List.range 16).map (byteAt line307) := by
  refine ⟨⟨rfl, rfl⟩, ⟨rfl, rfl⟩, ?_, ?_, ?_, rfl, ?_, ?_⟩ <;> decide +kernel

theorem witness_SeizeAdmitsFirstPassingChoice_choice :
    (walking (.seize (terms 1600)) [choice17 1]).ChoicePasses (choice17 1) 2 1600 1600
      (tariffLineOf line307) ∧
    (awaiting (.seize (terms 1600)) (choice17 1)).ChoicePasses (choice17 1) 2 1600 1600
      (tariffLineOf line307) := by
  unfold State.ChoicePasses
  and_intros <;> decide +kernel

/-- A seizure with no choice left is ALL_BLOCKED, and one with a passing choice left is ROUTED. -/
theorem test_seize_walk_ends :
    (after .seize (walking (.seize (terms 1600)) [])).cc.flight.map ChainFlight.op
      = some (.resultWrite .allBlocked) ∧
    (after .seize (walking (.seize (terms 1600)) [choice17 1])).cc.flight.map ChainFlight.op
      = some (.resultWrite .routed) := by
  and_intros <;> decide +kernel

theorem witness_SeizeStagesFindPlaceAndPrice_held :
    (handed 1 override74 routing).InHand .seize (cellOf 1 override74) ∧
    (cellOf 1 override74).seizeRequest = some ⟨⟨5, 2, 1600⟩, .override 74 3⟩ ∧
    (handed 1 override74 routing).ct.freeFifo ≠ [] ∧
    ((handed 1 override74 routing).agreement 5).active = true ∧
    ((handed 1 override74 routing).account 5).receivable
      < (handed 1 override74 routing).effCreditLimit 5 ∧
    (handed 1 override74 routing).lookup ⟨.tariff, (if (handed 1 override74 routing).effGrid 5 = .own
      then (5 : CarrierId).val else 0) * 32 + (handed 1 override74 routing).tb.band.val * 8
      + (3 : Distance).val⟩ = some (layout 0 16 [⟨0, 1, 1⟩, ⟨10, 3, 2400⟩]) ∧
    (tariffLineOf (layout 0 16 [⟨0, 1, 1⟩, ⟨10, 3, 2400⟩])).valid = true ∧
    74 < (handed 1 override74 routing).cc.anchor.routeCount ∧
    (handed 1 override74 routing).lookup ⟨.route, 74⟩ = some route74 ∧
    choicesOf route74 = some [choice17 1] := by
  refine ⟨handed_inHand _ _ _ _ rfl, ?_, ?_, ?_, ?_, ?_, ?_, ?_, ?_, ?_⟩ <;> decide +kernel

/-- The operands of a SEIZE of carrier 5 with the digits 2, 1, 2. -/
def digits212 : List Field := [⟨16, 1, 5⟩, ⟨17, 1, 2⟩, ⟨19, 1, 3⟩, ⟨24, 2, 0x212⟩]

/-- An area entry in use. -/
def area74 : List Byte := layout 0 64 [⟨0, 1, 1⟩, ⟨2, 2, 74⟩, ⟨4, 1, 3⟩]

/-- The part with that area entry held. -/
def routing212 : State := { routing with tau := ⟨⟨⟨.area, 212⟩, area74⟩ :: routing.tau.lines, none⟩ }

theorem witness_SeizeStagesFindPlaceAndPrice_digits :
    (cellOf 1 digits212).seizeRequest = some ⟨⟨5, 2, 0⟩, .digits [2, 1, 2]⟩ ∧
    (212 : Nat) = 2 * 100 + 1 * 10 + 2 ∧
    routing212.lookup ⟨.area, 212⟩ = some area74 ∧ routing.lookup ⟨.area, 212⟩ = none ∧
    (areaEntryOf area74).valid = true ∧ (areaEntryOf (layout 0 64 [])).valid = false := by
  and_intros <;> decide +kernel

theorem witness_SeizeStagesFindPlaceAndPrice_missed :
    State.reset.lookup ⟨.tariff, 19⟩ = none ∧ (tariffLineOf (layout 0 16 [])).valid = false ∧
    routing.cc.anchor.routeCount ≤ 75 ∧ 73 < routing.cc.anchor.routeCount ∧
    ({ routing with tau := ⟨[], none⟩ } : State).lookup ⟨.route, 73⟩ = none ∧
    choicesOf (layout 0 64 []) = none ∧
    (filling (.area request212)).tau.fill = some ⟨⟨.route, 73⟩, 4096, .area request212⟩ ∧
    (filling (.transit call5 override73 2)).tau.fill
      = some ⟨⟨.route, 73⟩, 4096, .transit call5 override73 2⟩ ∧
    (filling (.route terms73)).tau.fill = some ⟨⟨.route, 73⟩, 4096, .route terms73⟩ := by
  refine ⟨?_, ?_, ?_, ?_, ?_, ?_, rfl, rfl, rfl⟩ <;> decide +kernel

/-- The operands of a SEIZE with digits are gone after its first step, with the area entry held and with
it missed, when the digits stand with the fill alone (R57). -/
theorem test_seize_keeps_no_number :
    (handed 1 digits212 routing212).cc.cell.map FetchedCell.operands ≠ some [] ∧
    (after .seize (handed 1 digits212 routing212)).cc.cell.map FetchedCell.operands = some [] ∧
    (after .seize (handed 1 digits212 routing)).cc.cell.map FetchedCell.operands = some [] ∧
    (after .seize (handed 1 digits212 routing)).tau.fill.map Fill.requester
      = some (.area request212) := by
  and_intros <;> decide +kernel

/-- The first event of that SEIZE leaves the walk before its choice, and a SEIZE in the DIGITS form with
no line held asks for its area entry at its address. -/
theorem test_seize_first_event :
    (after .seize (handed 1 override74 routing)).cc.work
      = .walking (.seize (terms 1600)) [] [choice17 1] ∧
    (after .seize (handed 1 digits212 routing)).tau.fill.map (fun f => (f.tag, f.address))
      = some (⟨.area, 212⟩, 212 * 64) := by
  and_intros <;> decide +kernel

theorem witness_CrankbackRefusesAndLimits :
    (handed 2 [⟨16, 2, 0x3007⟩] routing).InHand .crankback (cellOf 2 [⟨16, 2, 0x3007⟩]) ∧
    (7 : CtxId).val = (cellOf 2 [⟨16, 2, 0x3007⟩]).operand 16 2 % 4096 ∧
    (routing.context 7).state = .seized ∧
    (routing.context 7).generation
      = BitVec.ofNat 4 ((cellOf 2 [⟨16, 2, 0x3007⟩]).operand 16 2 / 4096) ∧
    (routing.context 7).generation
      ≠ BitVec.ofNat 4 ((cellOf 2 [⟨16, 2, 0x2007⟩]).operand 16 2 / 4096) ∧
    (routing.context 8).state = .free ∧
    ((routing.setContext 7 { call7 with crankbacks := 2 }).context 7).crankbacks = 2 ∧
    ((routing.setContext 7 { call7 with state := .answered }).context 7).state = .answered := by
  refine ⟨handed_inHand _ _ _ _ rfl, ?_, ?_, ?_, ?_, ?_, ?_, ?_⟩ <;> decide +kernel

/-- The part with the CRANKBACK of call 7 dispatched. -/
def turnedBack : State := handed 2 [⟨16, 2, 0x3007⟩] routing

theorem witness_CrankbackMovesOrFreesCall_first :
    turnedBack.InHand .crankback (cellOf 2 [⟨16, 2, 0x3007⟩]) ∧
    turnedBack.context 7 = call7 ∧ call7.state = .seized ∧ call7.crankbacks < 2 ∧
    call7.routeList < turnedBack.cc.anchor.routeCount ∧
    turnedBack.lookup ⟨.route, call7.routeList⟩ = some route73 ∧
    (choicesOf route73).map (fun l => l.drop call7.choice) = some [choice17 2] ∧
    (choicesOf route74).map (fun l => l.drop call7.choice) = some [] ∧
    State.reset.cc.anchor.routeCount ≤ call7.routeList ∧
    ({ turnedBack with tau := ⟨[], none⟩ } : State).lookup ⟨.route, call7.routeList⟩ = none ∧
    (filling (.crankRoute 7)).tau.fill = some ⟨⟨.route, 73⟩, 4096, .crankRoute 7⟩ := by
  refine ⟨handed_inHand _ _ _ _ rfl, ?_, ?_, ?_, ?_, ?_, ?_, ?_, ?_, ?_, rfl⟩ <;> decide +kernel

theorem witness_CrankbackMovesOrFreesCall_walk :
    (walking (.crankback 7) [choice17 2]).WalkInHand (.crankback 7) [] [choice17 2] ∧
    (walking (.crankback 7) []).WalkInHand (.crankback 7) [] [] ∧
    (walking (.crankback 7) []).context 7 = call7 ∧ call7.state ≠ .free ∧
    (choice17 2).group ≠ call7.group ∧
    (walking (.crankback 7) [choice17 2]).lookup
      ((walking (.crankback 7) [choice17 2]).tariffTag 9 call7.band call7.distance)
      = some line307 ∧
    ((walking (.crankback 7) [choice17 2]).group 17).owner = 9 ∧
    (awaiting (.crankback 7) (choice17 2)).tau.fill
      = some ⟨⟨.tariff, 307⟩, 4912, .owner ⟨.crankback 7, [], choice17 2, []⟩⟩ ∧
    (awaiting (.crankback 7) (choice17 2)).context 7 = call7 := by
  refine ⟨⟨rfl, rfl⟩, ⟨rfl, rfl⟩, ?_, ?_, ?_, ?_, ?_, rfl, ?_⟩ <;> decide +kernel

theorem witness_CrankbackMovesOrFreesCall_choice :
    (walking (.crankback 7) [choice17 2]).ChoicePasses (choice17 2) call7.cls call7.ceiling 1600
      (tariffLineOf line307) ∧
    (awaiting (.crankback 7) (choice17 2)).ChoicePasses (choice17 2) call7.cls call7.ceiling 1600
      (tariffLineOf line307) := by
  unfold State.ChoicePasses
  and_intros <;> decide +kernel

/-- The crankback moves call 7 from group 140 to group 17 in the event of its choice. -/
theorem test_crankback_moves :
    (((after .crankback (walking (.crankback 7) [choice17 2])).group 140).busy,
      ((after .crankback (walking (.crankback 7) [choice17 2])).group 17).busy,
      ((after .crankback (walking (.crankback 7) [choice17 2])).context 7).crankbacks)
      = (0, 1, 2) := by decide +kernel

/-- A choice on group 140, barred to class 2 or full. -/
def choice140 (classMask : Byte) : Choice := ⟨1, 140, false, classMask⟩

theorem witness_ChoicesAreCheckedInOrder_walk :
    min 6 (leNat (layout 0 64 []) 0 1 % 8) = 0 ∧ min 6 (leNat (layout 0 64 [⟨0, 1, 7⟩]) 0 1 % 8) = 6 ∧
    (walking (.seize (terms 1600)) [choice140 0, choice17 2]).WalkInHand (.seize (terms 1600)) []
      (choice140 0 :: [choice17 2]) ∧
    firstPart (.seize (terms 1600)) (choice140 0)
      (walking (.seize (terms 1600)) [choice140 0, choice17 2]) = some .classBarred ∧
    firstPart (.seize (terms 1600)) (choice140 4)
      (walking (.seize (terms 1600)) [choice140 4]) = none ∧
    (walking (.seize (terms 1600)) [choice140 4]).lookup ⟨.tariff,
      (if (walking (.seize (terms 1600)) [choice140 4]).effGrid 9 = .own then (9 : CarrierId).val
        else 0) * 32 + ((WalkFor.seize (terms 1600)).band
        (walking (.seize (terms 1600)) [choice140 4])).val * 8
        + ((WalkFor.seize (terms 1600)).distance
        (walking (.seize (terms 1600)) [choice140 4])).val⟩ = some line307 ∧
    ({ walking (.seize (terms 1600)) [choice140 4] with tau := ⟨[], none⟩ } : State).lookup
      ⟨.tariff, 307⟩ = none := by
  refine ⟨?_, ?_, ⟨rfl, rfl⟩, ?_, ?_, ?_, ?_⟩ <;> decide +kernel

theorem witness_ChoicesAreCheckedInOrder_rejected :
    secondPart (.seize (terms 1600)) (choice140 4) (tariffLineOf line307)
      (walking (.seize (terms 1600)) [choice140 4])
      = .rejected .full ((walking (.seize (terms 1600)) [choice140 4]).pressure 140) ∧
    (awaiting (.seize (terms 1600)) (choice140 4)).tau.fill
      = some ⟨⟨.tariff, 307⟩, 4912, .owner ⟨.seize (terms 1600), [], choice140 4, []⟩⟩ ∧
    secondPart (.seize (terms 1600)) (choice140 4) (tariffLineOf (layout 0 16 []))
      (awaiting (.seize (terms 1600)) (choice140 4))
      = .rejected .priceUnavailable (awaiting (.seize (terms 1600)) (choice140 4)) := by
  refine ⟨?_, rfl, ?_⟩ <;> rfl

/-- A choice that fails is recorded, and the walk stands before the next. -/
theorem test_rejected_choice_is_recorded :
    (after .seize (walking (.seize (terms 1600)) [choice140 0, choice17 2])).cc.work
      = .walking (.seize (terms 1600)) [⟨1, 140, .classBarred⟩] [choice17 2] := by decide +kernel

theorem witness_ChoicesAreCheckedInOrder :
    (tariffLineOf (layout 0 16 [⟨0, 1, 1⟩, ⟨4, 3, 1600⟩])).valid = true ∧
    (tariffLineOf (layout 0 16 [⟨4, 3, 1600⟩])).valid = false ∧
    (1600 * (routing.effPremium 9)[(routing.group 17).control.tier] + 64) / 128 = 1600 ∧
    (WalkFor.seize (terms 1599)).ceiling routing < 1600 ∧
    1600 ≤ (WalkFor.seize (terms 1600)).ceiling routing ∧
    (routing.group 140).provisioned ≤ (routing.group 140).busy ∧
    (routing.group 17).busy < (routing.group 17).provisioned ∧
    (routing.group 17).control.reserve < (routing.group 17).provisioned - (routing.group 17).busy ∧
    16 ≤ (routing.group 17).thinning + (routing.group 17).control.altAdmit ∧
    (group79 2 0 0 2 1 15 9).provisioned - (group79 2 0 0 2 1 15 9).busy
      ≤ (group79 2 0 0 2 1 15 9).control.reserve ∧
    (group79 2 0 0 1 1 14 9).thinning + (group79 2 0 0 1 1 14 9).control.altAdmit < 16 := by
  and_intros <;> decide +kernel

/-- Context 7 in a state at tick 100, with its reference ticks at 0. -/
def holding (x : CallState) (hold : List HoldEntry) : State :=
  { State.reset.setContext 7 { call7 with
      state := x, answerTick := some 0, minOut := 30, incOut := 6, minIn := 60, incIn := 60 } with
    tb := { State.reset.tb with now := 100 },
    jw := { State.reset.jw with hold := hold } }

theorem witness_AnswerMarksTheCall :
    (handed 3 [⟨16, 2, 0x3007⟩, ⟨18, 1, 100⟩] (holding .seized [])).InHand .answer
      (cellOf 3 [⟨16, 2, 0x3007⟩, ⟨18, 1, 100⟩]) ∧
    (7 : CtxId).val = (cellOf 3 [⟨16, 2, 0x3007⟩]).operand 16 2 % 4096 ∧
    ((holding .seized []).context 7).state = .seized ∧
    ((holding .seized []).context 7).generation
      = BitVec.ofNat 4 ((cellOf 3 [⟨16, 2, 0x3007⟩]).operand 16 2 / 4096) ∧
    ((holding .free []).context 7).state = .free ∧
    ((holding .answered []).context 7).answerTick = some 0 ∧
    ¬ ((holding .seized []).now - ((holding .seized []).context 7).seizeTick).toNat
      < (cellOf 3 [⟨18, 1, 100⟩]).operand 18 1 ∧
    ((holding .seized []).now - ((holding .seized []).context 7).seizeTick).toNat
      < (cellOf 3 [⟨18, 1, 101⟩]).operand 18 1 := by
  refine ⟨handed_inHand _ _ _ _ rfl, ?_, ?_, ?_, ?_, ?_, ?_, ?_⟩ <;> decide +kernel

theorem witness_ReleaseOfSeizedCallFreesIt :
    (handed 4 [⟨16, 2, 0x3007⟩, ⟨18, 1, 3⟩] (holding .seized [])).InHand .release
      (cellOf 4 [⟨16, 2, 0x3007⟩, ⟨18, 1, 3⟩]) ∧
    3 < (cellOf 4 [⟨18, 1, 4⟩]).operand 18 1 ∧ (cellOf 4 [⟨18, 1, 3⟩]).operand 18 1 ≤ 3 ∧
    (cellOf 4 [⟨18, 1, 2⟩]).operand 18 1 = 2 ∧
    ((holding .seized []).context 7).state = .seized ∧
    ((holding .seized []).context 7).generation = BitVec.ofNat 4 (0x3007 / 4096) ∧
    ((holding .free []).context 7).state = .free := by
  refine ⟨handed_inHand _ _ _ _ rfl, ?_, ?_, ?_, ?_, ?_, ?_⟩ <;> decide +kernel

/-- The release of call 7 with an event age of 100, just unclamped. -/
def release7 : PendingRelease := ⟨7, .failure, 0, false⟩

/-- A stalled release of call 7. -/
def stalled (w : Work) (hold : List HoldEntry) : State :=
  { holding .answered hold with
    cc := { State.reset.cc with state := .stalled, cell := some (cellOf 4 []), work := w } }

theorem witness_ReleaseOfAnsweredCallIsCharged :
    (handed 4 [⟨16, 2, 0x3007⟩, ⟨18, 1, 3⟩, ⟨19, 1, 100⟩] (holding .answered [])).InHand .release
      (cellOf 4 [⟨16, 2, 0x3007⟩, ⟨18, 1, 3⟩, ⟨19, 1, 100⟩]) ∧
    ((holding .answered []).context 7).state = .answered ∧
    ((holding .answered []).context 7).answerTick = some 0 ∧
    releaseCause ((cellOf 4 [⟨18, 1, 3⟩]).operand 18 1) = some release7.cause ∧
    release7.ageClamped = decide (((holding .answered []).now - 0).toNat < 100) ∧
    release7.releaseTick = (holding .answered []).now - BitVec.ofNat 32 100 ∧
    (holding .answered (List.replicate 31 (.charge record108))).jw.hold.length < 32 ∧
    32 ≤ (holding .answered (List.replicate 32 (.charge record108))).jw.hold.length ∧
    (stalled (.stalledRelease release7) []).cc.state = .stalled ∧
    (stalled (.stalledRelease release7) []).cc.work = .stalledRelease release7 ∧
    ((stalled (.stalledRelease release7) []).context release7.ctx).state = .answered := by
  refine ⟨handed_inHand _ _ _ _ rfl, ?_, ?_, ?_, ?_, ?_, ?_, ?_, ?_, ?_, ?_⟩ <;>
    first | rfl | decide +kernel

theorem witness_ReportChangesCollectsTwelve :
    (handed 6 [] State.reset).InHand .reportChanges (cellOf 6 []) := handed_inHand _ _ _ _ rfl

theorem witness_FreezeSetsFreezePending :
    (handed 0x19 [⟨16, 1, 255⟩] State.reset).InHand .freeze (cellOf 0x19 [⟨16, 1, 255⟩]) :=
  handed_inHand _ _ _ _ rfl

theorem witness_EngineSetStoresAnswerLimit :
    (handed 7 [⟨16, 1, 1⟩, ⟨18, 2, 3601⟩] State.reset).InHand .engineSet
      (cellOf 7 [⟨16, 1, 1⟩, ⟨18, 2, 3601⟩]) := handed_inHand _ _ _ _ rfl

/-- A group with K = 2 and three captures: FI is the mean of the last two, rounded down (R73). -/
def measured : Group := { Group.cold with depth := .k2, history := [300, 400, 501] }

theorem witness_QueriesChangeNothing_fields :
    measured.depth = .k2 ∧ min measured.history.length 2 = 2 ∧
    (measured.history.drop (measured.history.length - 2)).sum / 2 = 450 ∧ Group.cold.history = [] :=
  ⟨rfl, rfl, rfl, rfl⟩

/-- R72: FI defined, at rest, and FI in the result of such a group. -/
theorem test_group_result_fields :
    ((measured.resultFields 511 0 false).filter (fun f => f.offset == 74 || f.offset == 86)).map
      Field.value = [4 + 8, 450] := by decide

/-- Carriers 0 and 63 with MIN_SECONDS 30 and 60; carrier 63 overrides the terms given. -/
def termed (override : TermBits) : State :=
  { State.reset with agr := { State.reset.agr with
    agreements := (State.reset.agr.agreements.set 0 { Agreement.cold with minSeconds := 30 }).set 63
      { Agreement.cold with minSeconds := 60, override := override } } }

/-- R133: carrier 0's value while the override bit is clear, the own one while it is set. -/
theorem test_effective_value_follows_override :
    ((termed 0).effMinSeconds 63, (termed 0b000010).effMinSeconds 63,
      (termed 0b000010).effMinSeconds 0) = (30, 60, 30) := by decide +kernel

theorem witness_QueriesChangeNothing_source :
    ∃ source : Nat → Agreement, ∀ b, source b
      = if (63 : CarrierId) = 0 ∨ ((termed 2).agreement 63).override.getLsbD b = true
        then (termed 2).agreement 63 else (termed 2).agreement 0 := ⟨_, fun _ => rfl⟩

theorem witness_QueriesChangeNothing :
    (handed 0x11 [⟨16, 2, 511⟩] State.reset).InHand .queryGroup (cellOf 0x11 [⟨16, 2, 511⟩]) ∧
    (handed 5 [⟨16, 2, 4095⟩] State.reset).InHand .queryContext (cellOf 5 [⟨16, 2, 4095⟩]) ∧
    (handed 0x1A [⟨16, 1, 63⟩] State.reset).InHand .queryCarrier (cellOf 0x1A [⟨16, 1, 63⟩]) ∧
    511 < (cellOf 0x11 [⟨16, 2, 512⟩]).operand 16 2 ∧
    (cellOf 0x11 [⟨16, 2, 511⟩]).operand 16 2 = (511 : GroupId).val ∧
    4095 < (cellOf 5 [⟨16, 2, 4096⟩]).operand 16 2 ∧
    (cellOf 5 [⟨16, 2, 4095⟩]).operand 16 2 = (4095 : CtxId).val ∧
    63 < (cellOf 0x1A [⟨16, 1, 64⟩]).operand 16 1 ∧
    (cellOf 0x1A [⟨16, 1, 63⟩]).operand 16 1 = (63 : CarrierId).val := by
  refine ⟨handed_inHand _ _ _ _ rfl, handed_inHand _ _ _ _ rfl, handed_inHand _ _ _ _ rfl, ?_, ?_, ?_,
    ?_, ?_, ?_⟩ <;> decide +kernel

/-- An AGREE_SET of carrier 63 with its four masks. -/
def agreeCell (field ovSet ovClear fix : Nat) : FetchedCell :=
  cellOf 0x18 [⟨16, 1, 63⟩, ⟨17, 1, field⟩, ⟨18, 1, ovSet⟩, ⟨19, 1, ovClear⟩, ⟨20, 1, fix⟩]

/-- The part with GRID of carrier 63 fixed, and the freeze in force or not. -/
def fixedGrid (inForce : Bool) : State :=
  { State.reset with agr := { State.reset.agr with
    agreements := State.reset.agr.agreements.set 63 { Agreement.cold with fixed := 0b100000 },
    freezeInForce := inForce } }

/-- The masks of an accepted request. -/
def masksOf (c : FetchedCell) : Option (TermBits × TermBits × TermBits × TermBits) :=
  c.agreeRequest.map (fun q => (q.fieldMask, q.overrideSet, q.overrideClear, q.fixMask))

/-- An AGREE_SET that is not refused ends with the OK result: carrier 63 with its GRID fixed. -/
theorem test_agree_set_result :
    [resultAt (after .agreeSet (handed 0x18 [⟨16, 1, 63⟩, ⟨17, 1, 31⟩, ⟨18, 1, 30⟩, ⟨23, 1, 61⟩,
      ⟨24, 2, 30⟩, ⟨26, 4, 0x80808080⟩] (fixedGrid false))) 64 1,
    resultAt (after .agreeSet (handed 0x18 [⟨16, 1, 63⟩, ⟨17, 1, 31⟩, ⟨18, 1, 30⟩, ⟨23, 1, 61⟩,
      ⟨24, 2, 30⟩, ⟨26, 4, 0x80808080⟩] (fixedGrid false))) 65 1,
    resultAt (after .agreeSet (handed 0x18 [⟨16, 1, 63⟩, ⟨17, 1, 31⟩, ⟨18, 1, 30⟩, ⟨23, 1, 61⟩,
      ⟨24, 2, 30⟩, ⟨26, 4, 0x80808080⟩] (fixedGrid false))) 70 1] = [63, 1, 60] := by
  decide +kernel

theorem witness_AgreeSetRefusesOrWritesNamedTerms :
    (handed 0x18 [⟨16, 1, 63⟩, ⟨17, 1, 0⟩, ⟨18, 1, 32⟩, ⟨19, 1, 0⟩, ⟨20, 1, 0⟩] (fixedGrid true)).InHand
      .agreeSet (agreeCell 0 32 0 0) ∧
    (cellOf 0x18 [⟨16, 1, 64⟩]).agreeRequest = none ∧ (agreeCell 64 0 0 0).agreeRequest = none ∧
    (agreeCell 0 1 0 0).agreeRequest = none ∧ (agreeCell 0 0 1 0).agreeRequest = none ∧
    (agreeCell 0 2 2 0).agreeRequest = none ∧ (agreeCell 0 0 0 64).agreeRequest = none ∧
    masksOf (agreeCell 0 32 0 0) = some (0, 0b100000, 0, 0) ∧
    masksOf (agreeCell 0 0 0 0) = some (0, 0, 0, 0) ∧
    masksOf (agreeCell 31 30 0 63) = some (0b011111, 0b011110, 0, 0b111111) ∧
    (fixedGrid true).agr.freezeInForce = true ∧ (fixedGrid false).agr.freezeInForce = false ∧
    ((fixedGrid false).agreement 63).fixed.getLsbD 5 = true ∧
    (∀ b < 6, ((fixedGrid false).agreement 63).fixed.getLsbD b = true →
      (0b011111 : TermBits).getLsbD b = false) := by
  refine ⟨handed_inHand _ _ _ _ rfl, ?_, ?_, ?_, ?_, ?_, ?_, ?_, ?_, ?_, ?_, ?_, ?_, ?_⟩ <;>
    first | rfl | decide +kernel

theorem witness_PeriodCloseTakesCloseEvent :
    (handed 0x1B [] (holding .answered [])).InHand .periodClose (cellOf 0x1B []) ∧
    (holding .answered []).jw.snapshot = none ∧ (holding .answered []).jw.hold.length < 32 ∧
    32 ≤ (holding .answered (List.replicate 32 (.charge record108))).jw.hold.length ∧
    (stalled .stalledClose []).cc.state = .stalled ∧
    (stalled .stalledClose []).cc.work = .stalledClose := by
  refine ⟨handed_inHand _ _ _ _ rfl, rfl, ?_, ?_, rfl, rfl⟩ <;> decide +kernel

theorem witness_ChargesAccumulateAndSaturate : Account.zero.InRange := by
  constructor <;> decide

theorem witness_ChargeFollowsFrozenTerms :
    context108.answerTick = some 4294960000 ∧ 1 ≤ context108.incOut ∧ 1 ≤ context108.incIn ∧
    ((5000 : Tick) - 4294960000).toNat = 12296 ∧
    (context108.charge 1207 ⟨1207, .normal, 5000, false⟩).clamped = false ∧
    (context108.charge 1207 ⟨1207, .normal, 104992704, false⟩).clamped = true ∧
    context108.answerTime = some 3000000 := by
  and_intros <;> decide +kernel

/-- JW with a page open and nothing in flight. -/
def resting (close : ClosePending) (hold : List HoldEntry) (cursor : Cursor) : State :=
  { State.reset with
    jw := { State.reset.jw with
      state := .running, close := close, hold := hold, cursor := cursor,
      snapshot := some ⟨4, (Vector.replicate 64 Account.zero).set 63
        { Account.zero with sat := true }⟩ } }

theorem witness_JournalTakesItsNextStep :
    (resting .full [] ⟨0, false⟩).jw.state = .running ∧
    (resting .full [] ⟨0, false⟩).jw.flight = none ∧
    (resting .full [] ⟨0, false⟩).jw.close ≠ .none ∧
    (resting .none [] ⟨0, false⟩).jw.hold = [] ∧
    (resting .none [.charge record108] ⟨0, false⟩).jw.hold = [.charge record108] ∧
    (resting .none [.periodEnd 4] ⟨63, false⟩).jw.cursor.carrier ≤ (63 : CarrierId).val ∧
    (∀ p, (resting .none [.periodEnd 4] ⟨63, false⟩).jw.snapshot = some p →
      p.accounts[(63 : CarrierId)].summarised = true ∧ ∀ m : CarrierId, m < 63 →
        p.accounts[m].summarised = false) ∧
    (∀ m : CarrierId, ¬ (resting .none [.periodEnd 4] ⟨64, false⟩).jw.cursor.carrier ≤ m.val) ∧
    (resting .none [.periodEnd 4] ⟨64, true⟩).jw.cursor.markerWritten = true := by
  refine ⟨rfl, rfl, ?_, rfl, rfl, ?_, ?_, ?_, rfl⟩
  · decide
  · decide +kernel
  · intro p h
    cases h
    exact ⟨by decide +kernel, by decide +kernel⟩
  · intro m
    exact Nat.not_le.mpr m.isLt

theorem witness_OpeningReadOpensOrWaits :
    (writing (.opening true) (.read 16) [] 1).jw.flight
      = some ⟨.opening true, ⟨256, 0, .read 16⟩⟩ ∧
    (byteAt (layout 0 16 [⟨0, 8, 4096⟩, ⟨8, 1, 1⟩]) 8).getLsbD 0 = true ∧
    (byteAt (layout 0 16 [⟨0, 8, 4096⟩, ⟨8, 1, 254⟩]) 8).getLsbD 0 = false ∧
    (writing (.opening true) (.read 16) [] 1).jw.nudgeSeen = false ∧
    ({ State.reset.jw with nudgeSeen := true } : JournalWriter).nudgeSeen = true := by
  refine ⟨rfl, ?_, ?_, rfl, rfl⟩ <;> decide +kernel

theorem witness_RecordAndClosingStepsFollowInOrder :
    (writing (.record .charge) (.write []) [.charge record108] 48).jw.flight
      = some ⟨.record .charge, ⟨256, 0, .write []⟩⟩ ∧
    (writing (.count .charge) (.write []) [.charge record108] 63).jw.flight
      = some ⟨.count .charge, ⟨256, 0, .write []⟩⟩ ∧
    (writing (.count .charge) (.write []) [.charge record108] 63).jw.hold
      = .charge record108 :: [] ∧
    (writing (.count .charge) (.write []) [.charge record108] 63).jw.slot = 63 ∧
    (writing (.count .summary) (.write []) [.periodEnd 4] 48).jw.slot = 48 ∧
    (writing (.count .marker) (.write []) [.periodEnd 4] 48).jw.slot = 48 ∧
    (writing (.count .marker) (.write []) [.periodEnd 4] 63).jw.slot ≠ 48 ∧
    (writing (.count .summary) (.write []) [.periodEnd 4] 1).jw.slot ≠ 63 ∧
    (writing .prefetch (.read 16) [] 49).jw.flight = some ⟨.prefetch, ⟨256, 0, .read 16⟩⟩ ∧
    (writing .header (.write []) [] 63).jw.flight = some ⟨.header, ⟨256, 0, .write []⟩⟩ ∧
    (writing .mapClear (.write [0]) [] 63).jw.flight
      = some ⟨.mapClear, ⟨256, 0, .write [0]⟩⟩ := by
  refine ⟨rfl, rfl, rfl, rfl, rfl, rfl, by decide +kernel, by decide +kernel, rfl, rfl, rfl⟩

theorem witness_EngineWriteCompletesTheClose :
    (writing (.engineWrite false) (.write []) [] 1).jw.flight
      = some ⟨.engineWrite false, ⟨256, 0, .write []⟩⟩ ∧
    (writing (.engineWrite true) (.write []) [.periodEnd 4] 1).jw.flight
      = some ⟨.engineWrite true, ⟨256, 0, .write []⟩⟩ ∧
    (writing (.engineWrite true) (.write []) [.periodEnd 4] 1).jw.atPeriodEnd = true ∧
    (writing (.engineWrite false) (.write []) [] 1).jw.prefetch = none ∧
    ({ State.reset.jw with prefetch := some ⟨true, 4096⟩ } : JournalWriter).prefetch
      = some ⟨true, 4096⟩ := by
  and_intros <;> rfl

/-- The part at rest with a tick waiting. -/
def ticking : State := { State.reset with pending := [.tickAdvance] }

theorem ticking_steps : step ticking = .next (after .tickAdvance { ticking with pending := [] }) := rfl

theorem ticking_group (g : GroupId) : ticking.group g = Group.cold := by
  simp [ticking, State.group, State.reset]

theorem ticking_context (i : CtxId) : ticking.context i = Context.cold := by
  simp [ticking, State.context, State.reset, ContextTable.cold]

theorem ticking_agreement (c : CarrierId) : ticking.agreement c = Agreement.cold := by
  simp [ticking, State.agreement, State.reset, AgreementTable.cold]

theorem ticking_account (c : CarrierId) : ticking.account c = Account.zero := by
  simp [ticking, State.account, State.reset, RatingUnit.cold]

theorem witness_CallsStaySound : ticking.CallsSound ∧ ticking.MarksSound := by
  refine ⟨⟨fun g => ?_, ?_, fun i => ?_⟩, fun i => ?_⟩
  · have h : ticking.ct.contexts.toList = List.replicate 4096 Context.cold := Vector.toList_replicate
    rw [ticking_group, State.callsOn, h, List.countP_replicate]
    rfl
  · simp [ticking, State.reset, ContextTable.cold, List.nodup_finRange]
  · rw [ticking_context]
    simp [ticking, State.reset, ContextTable.cold, Context.live, Context.cold]
  · rw [ticking_context]
    constructor <;> simp [Context.cold]

theorem witness_CallsStaySound_fields :
    ticking.ChainShape ∧ ticking.AgreementsSound ∧ ticking.ContextsInRange := by
  refine ⟨⟨rfl, rfl, rfl, rfl, rfl, rfl⟩, ⟨fun c => ?_, fun h => nomatch h⟩,
    ⟨fun i => ?_, (fun _ h => nomatch h), (fun _ _ _ h => nomatch h)⟩⟩
  · rw [ticking_agreement]
    constructor <;> simp [Agreement.cold]
  · rw [ticking_context]
    constructor <;> simp [Context.cold, Context.live]

theorem witness_LineCacheStaysSound : ticking.CacheSound := by
  constructor <;> simp [ticking, State.reset, TableAccess.cold]

theorem coldControl_inRange : Control.cold.InRange := by
  constructor <;> decide

theorem witness_GroupsStayInRange : ticking.GroupsInRange := by
  refine ⟨fun g => ?_, fun n l => ?_⟩
  · rw [ticking_group]
    constructor <;> simp [Group.cold, coldControl_inRange]
  · have h : (ticking.profileRow n)[l] = Control.cold := by
      simp [ticking, State.profileRow, State.reset]
    rw [h]
    exact coldControl_inRange

theorem witness_AgreementsAndAccountsStaySound : ticking.AgreementsSound ∧ ticking.AccountsInRange := by
  refine ⟨⟨fun c => ?_, fun h => nomatch h⟩, ⟨fun c => ?_, fun p h => nomatch h⟩⟩
  · rw [ticking_agreement]
    constructor <;> simp [Agreement.cold]
  · rw [ticking_account]
    exact witness_ChargesAccumulateAndSaturate

theorem witness_JournalStaysSound : ticking.jw.HoldSound ∧ ticking.jw.ShapeSound := by
  refine ⟨?_, ?_⟩ <;> constructor <;>
    simp [ticking, State.reset, JournalWriter.cold, JournalWriter.flightOp]

theorem witness_JournalStaysSound_map : ticking.MapSound := by
  constructor <;>
    simp [ticking, State.reset, JournalWriter.cold, ChainController.cold]

theorem witness_ChainStaysSound : ticking.ChainShape ∧ ticking.cc.AreaSound := by
  refine ⟨⟨rfl, rfl, rfl, rfl, rfl, rfl⟩, ?_⟩
  constructor <;> simp [ticking, State.reset, ChainController.cold, ChainController.flightOp]

/-- A SEIZE with digits before its first step, and the same waiting for its area entry after it. -/
theorem witness_ChainStaysSound_number :
    (handed 1 digits212 routing212).ChainShape ∧ (handed 1 digits212 routing212).NumberDropped ∧
    (filling (.area request212)).cc.cell.map FetchedCell.operands ≠ some [] ∧
    ({ filling (.area request212) with
      cc := (filling (.area request212)).dropOperands.cc } : State).ChainShape ∧
    ({ filling (.area request212) with
      cc := (filling (.area request212)).dropOperands.cc } : State).NumberDropped := by
  refine ⟨⟨rfl, .inl ⟨rfl, rfl, rfl⟩⟩, fun c _ _ => .inl rfl, by decide +kernel,
    ⟨rfl, .inr (.inl ⟨rfl, rfl, rfl⟩)⟩, ?_⟩
  rintro c ⟨⟩ _
  exact .inr rfl

theorem witness_PollCounterStaysBelowPeriod : ticking.PollSound :=
  ⟨(fun h => nomatch h), fun _ => rfl⟩

theorem witness_HeldResetKeepsThePartCold :
    ({ ticking with resets := ⟨true, false⟩ } : State).inReset = true ∧
    ({ ticking with resets := ⟨true, false⟩ } : State).HeldResetCold := ⟨rfl, fun _ => rfl⟩

theorem witness_AttentionAndCaptureAreKept :
    exec .nop ({ ticking with afl := { ticking.afl with
      status := 0b100000, capture := some ⟨256, .badLink, .chain, false⟩ } } : State)
      = .next { ticking with afl := { ticking.afl with
        status := 0b100000, capture := some ⟨256, .badLink, .chain, false⟩ } } ∧
    coldResets .nop = false ∧ (∀ v, Instr.nop ≠ .attnStatusWrite v) ∧
    (∀ v, Instr.nop ≠ .attnEnableWrite v) ∧ ∀ v, Instr.nop ≠ .faultInfoWrite v := by
  refine ⟨rfl, rfl, by simp, by simp, by simp⟩

theorem witness_GenerationAdvancesAtFreeing : exec .nop ticking = .next ticking ∧ coldResets .nop = false := ⟨rfl, rfl⟩

end Sys2Proof.Tests
end

section
/-! SUPPORT. CLOCK_SET and BAND_SET: the band lookup, the new band table and what each request does,
and the settlement of O13 (R27, R31, R32). -/

namespace Sys2Proof.Machine

/-! ## Band lookup and the new band table -/

/-- A band lookup reads the entry of the day and the half-hour (R27). -/
theorem Timebase.band_eq_getD (b : Timebase) :
    b.band = b.bands.toList.getD
      (b.timeOfWeek.val / 8640000 * 48 + b.timeOfWeek.val % 8640000 / 180000) 0 := by
  have hentry : (bandEntry b.timeOfWeek).val < b.bands.toList.length := by simp
  have hget := List.getD_eq_getElem b.bands.toList 0 hentry
  rw [Vector.getElem_toList] at hget
  exact hget.symm

/-- Entry `d × 48 + h` of the new table is band `h` of the pattern of day `d`'s selector (R32). -/
theorem FetchedCell.bandTable_entry (c : FetchedCell) {d h : Nat} (hd : d < 7) (hh : h < 48) :
    c.bandTable.toList.getD (d * 48 + h) 0 = c.patternBand (c.daySelector d) h := by
  have hentry : d * 48 + h < 336 := by omega
  have hday : (d * 48 + h) / 48 = d := by omega
  have hhalf : (d * 48 + h) % 48 = h := by omega
  rw [List.getD_eq_getElem _ _ (by simpa using hentry), Vector.getElem_toList,
    FetchedCell.bandTable, tabulate_getElem, hday, hhalf]

/-- A band of a pattern is two bits of one of its twelve bytes (section 13.4). -/
theorem FetchedCell.patternBand_val (c : FetchedCell) (pattern h : Nat) :
    (c.patternBand pattern h).val = c.operand (16 + 12 * pattern + h / 4) 1 / 4 ^ (h % 4) % 4 := rfl

/-! ## CLOCK_SET -/

/-- The time of week becomes `v` and CLOCK_SET completes with the clock then in force (R31). -/
def State.clockSetTo (s : State) (v : TimeOfWeek) : State :=
  { s with tb := { s.tb with timeOfWeek := v } }.complete .ok
    [⟨64, 4, s.tb.now.toNat⟩, ⟨68, 4, s.tb.timeOfWeek⟩, ⟨72, 4, v⟩, ⟨76, 1, dayOf v⟩,
      ⟨77, 1, halfHourOf v⟩, ⟨78, 1, ({ s.tb with timeOfWeek := v } : Timebase).band⟩]

theorem clockSetRequest_of_above {c : FetchedCell} (hset : c.flag 16 = true)
    (habove : 60480000 ≤ c.operand 20 4) (s : State) :
    clockSetRequest c s = s.complete .badOperand [] := by
  simp [clockSetRequest, hset, habove]

theorem clockSetRequest_of_set {c : FetchedCell} {v : TimeOfWeek} (hset : c.flag 16 = true)
    (hval : c.operand 20 4 = v.val) (s : State) : clockSetRequest c s = s.clockSetTo v := by
  have hv : Fin.ofNat 60480000 v.val = v := Fin.ext (Nat.mod_eq_of_lt v.isLt)
  simp only [clockSetRequest, hset, hval, v.isLt, hv, decide_true, Bool.not_true, Bool.and_false,
    Bool.false_eq_true, if_false, if_true]
  rfl

/-- With the set flag clear the operand is not checked and the time of week stands (R31). -/
theorem clockSetRequest_of_clear {c : FetchedCell} (hclear : c.flag 16 = false) (s : State) :
    clockSetRequest c s = s.clockSetTo s.tb.timeOfWeek := by
  simp only [clockSetRequest, hclear, Bool.false_and, Bool.false_eq_true, if_false]
  rfl

theorem exec_clockSet_of_inHand {s : State} {c : FetchedCell} (h : s.InHand .clockSet c) :
    exec .clockSet s = .next (clockSetRequest c s) := onRequest_of_inHand h clockSetRequest

/-! ## BAND_SET -/

/-- BAND_SET checks the selectors of all seven days before it writes (R32). -/
theorem bandSetRequest_of_selector_above {c : FetchedCell} {d : Nat} (hd : d < 7)
    (habove : 2 < c.daySelector d) (s : State) :
    bandSetRequest c s = s.complete .badOperand [] := by
  have hrefused : ¬ (List.range 7).all (fun d => decide (c.daySelector d < 3)) = true := by
    simp only [List.all_eq_true, List.mem_range, decide_eq_true_eq, not_forall]
    exact ⟨d, hd, by omega⟩
  exact if_neg hrefused

theorem bandSetRequest_of_selectors {c : FetchedCell} (hsel : ∀ d < 7, c.daySelector d ≤ 2)
    (s : State) :
    bandSetRequest c s = { s with tb := { s.tb with bands := c.bandTable } }.complete .ok
      [⟨64, 4, s.tb.timeOfWeek⟩, ⟨68, 1, dayOf s.tb.timeOfWeek⟩,
        ⟨69, 1, halfHourOf s.tb.timeOfWeek⟩,
        ⟨70, 1, ({ s.tb with bands := c.bandTable } : Timebase).band⟩] := by
  have haccepted : (List.range 7).all (fun d => decide (c.daySelector d < 3)) = true := by
    simp only [List.all_eq_true, List.mem_range, decide_eq_true_eq]
    exact fun d hd => Nat.lt_succ_of_le (hsel d hd)
  exact if_pos haccepted

theorem exec_bandSet_of_inHand {s : State} {c : FetchedCell} (h : s.InHand .bandSet c) :
    exec .bandSet s = .next (bandSetRequest c s) := onRequest_of_inHand h bandSetRequest

/-! ## O13 -/

/-- Settles O13: each request is run on the cell in hand, one clause for each way its checks can go. -/
theorem clockSetAndBandSetWriteTheTimebase : Obligations.ClockSetAndBandSetWriteTheTimebase := by
  refine ⟨fun s c hc => ⟨fun hset habove => ?clockRefused, fun v hv => ?clockTaken⟩,
    fun s c hc => ⟨fun d hd habove => ?bandsRefused, fun hsel =>
      ⟨c.bandTable, fun d hd h hh => ?bandsEntry, ?bandsTaken⟩⟩⟩
  case clockRefused =>
    rw [exec_clockSet_of_inHand hc, clockSetRequest_of_above hset habove]
  case clockTaken =>
    have hrun : clockSetRequest c s = s.clockSetTo v := by
      obtain ⟨hset, hval⟩ | ⟨hclear, rfl⟩ := hv
      · exact clockSetRequest_of_set hset hval s
      · exact clockSetRequest_of_clear hclear s
    rw [exec_clockSet_of_inHand hc, hrun, State.clockSetTo, Timebase.band_eq_getD]
    rfl
  case bandsRefused =>
    rw [exec_bandSet_of_inHand hc, bandSetRequest_of_selector_above hd habove]
  case bandsEntry =>
    rw [c.bandTable_entry hd hh, FetchedCell.patternBand_val, FetchedCell.daySelector]
  case bandsTaken =>
    rw [exec_bandSet_of_inHand hc, bandSetRequest_of_selectors hsel, Timebase.band_eq_getD]
    rfl

end Sys2Proof.Machine
end

section
/-! SUPPORT. Destination analysis: what a refinement fits, which of the fitting ones wins, and the
settlement of O28 (R34, R55, R56). -/

namespace Sys2Proof.Machine

/-! ## An area entry by its fields -/

/-- Refinement `n` of an entry is the record at byte `8 + 12 × n` (R34). -/
theorem areaEntryOf_refinement (line : List Byte) {n : Nat} (hn : n < 4) :
    (areaEntryOf line).refinements[n]? = some (refinementOf line n) := by
  simp [areaEntryOf, hn]

theorem refinementOf_digits_length (line : List Byte) (n : Nat) :
    (refinementOf line n).digits.length = 5 := by
  simp [refinementOf]

/-- Compare digit `j` of a refinement is the low half of its byte (R34). -/
theorem refinementOf_digit (line : List Byte) (n : Nat) {j : Nat} (hj : j < 5) :
    (refinementOf line n).digits[j]? = some (leNat line (12 + 12 * n + j) 1 % 16) := by
  have hbyte : 8 + 12 * n + 4 + j = 12 + 12 * n + j := by omega
  simp [refinementOf, hj, hbyte]

/-- The fields of a refinement before its digits, each through its range (R34). -/
theorem refinementOf_fields (line : List Byte) (n : Nat) :
    (refinementOf line n).length = leNat line (8 + 12 * n) 1 % 8 ∧
    (refinementOf line n).routeList = leNat line (9 + 12 * n) 2 % 2048 ∧
    (refinementOf line n).distance.val = leNat line (11 + 12 * n) 1 % 8 := by
  have hroute : 8 + 12 * n + 1 = 9 + 12 * n := by omega
  have hdistance : 8 + 12 * n + 3 = 11 + 12 * n := by omega
  rw [← hroute, ← hdistance]
  exact ⟨rfl, rfl, rfl⟩

/-! ## Which refinements fit -/

/-- Inside both lists the two defaults of `Refinement.fits` are never read, so its comparison is
that of the digits themselves. -/
theorem getD_eq_getD_iff_getElem? {digits dialled : List Nat} {j k : Nat} (hj : j < digits.length)
    (hk : k < dialled.length) (a b : Nat) :
    digits.getD j a = dialled.getD k b ↔ digits[j]? = dialled[k]? := by
  rw [List.getD_eq_getElem _ _ hj, List.getD_eq_getElem _ _ hk, List.getElem?_eq_getElem hj,
    List.getElem?_eq_getElem hk, Option.some_inj]

/-- The three conditions of R55. -/
theorem Refinement.fits_iff {r : Refinement} {dialled : List Nat} (hdigits : r.digits.length = 5) :
    r.fits dialled = true ↔
      1 ≤ r.length ∧ r.length ≤ 5 ∧ 3 + r.length ≤ dialled.length ∧
      ∀ j < r.length, r.digits[j]? = dialled[3 + j]? := by
  simp only [Refinement.fits, Bool.and_eq_true, decide_eq_true_eq, List.all_eq_true,
    List.mem_range, beq_iff_eq, and_assoc]
  refine and_congr_right fun _ => and_congr_right fun hfive => and_congr_right fun hroom =>
    forall₂_congr fun j hj => ?_
  exact getD_eq_getD_iff_getElem? (by omega) (by omega) 15 16

/-! ## Which fitting refinement wins -/

/-- `r` at index `n` is the longest of the refinements that fit, the earliest of equals (R56). -/
structure WinsAt (dialled : List Nat) (refinements : List Refinement) (n : Nat) (r : Refinement) :
    Prop where
  at_index : refinements[n]? = some r
  fits : r.fits dialled = true
  beats : ∀ (m : Nat) (r' : Refinement), refinements[m]? = some r' → r'.fits dialled = true →
    r'.length < r.length ∨ (r'.length = r.length ∧ n ≤ m)

theorem WinsAt.length_le {dialled : List Nat} {l : List Refinement} {n : Nat} {w r : Refinement}
    (h : WinsAt dialled l n w) (hr : r ∈ l) (hfits : r.fits dialled = true) :
    r.length ≤ w.length := by
  obtain ⟨m, hm⟩ := List.mem_iff_getElem?.mp hr
  obtain hless | ⟨heq, -⟩ := h.beats m r hm hfits
  · exact hless.le
  · exact heq.le

/-- A head that fits and is as long as every later one that fits wins: it is the earliest. -/
theorem WinsAt.head {dialled : List Nat} {r : Refinement} {rest : List Refinement}
    (hfits : r.fits dialled = true)
    (hrest : ∀ r' ∈ rest, r'.fits dialled = true → r'.length ≤ r.length) :
    WinsAt dialled (r :: rest) 0 r where
  at_index := rfl
  fits := hfits
  beats
    | 0, r', hm, _ => by
      obtain rfl : r = r' := Option.some.inj hm
      exact .inr ⟨rfl, le_rfl⟩
    | m + 1, r', hm, hfits' => by
      have hle := hrest r' (List.mem_of_getElem? hm) hfits'
      omega

/-- The winner of the rest stays the winner before a head that does not fit or is shorter. -/
theorem WinsAt.cons {dialled : List Nat} {w r : Refinement} {rest : List Refinement} {n : Nat}
    (h : WinsAt dialled rest n w) (hhead : r.fits dialled = true → r.length < w.length) :
    WinsAt dialled (r :: rest) (n + 1) w where
  at_index := h.at_index
  fits := h.fits
  beats
    | 0, r', hm, hfits' => by
      obtain rfl : r = r' := Option.some.inj hm
      exact .inl (hhead hfits')
    | m + 1, r', hm, hfits' => by
      have hbeats := h.beats m r' hm hfits'
      omega

theorem winningRefinement_eq_none_iff {dialled : List Nat} {l : List Refinement} {k : Nat} :
    winningRefinement dialled (l.zipIdx k) = none ↔ ∀ r ∈ l, r.fits dialled = false := by
  induction l generalizing k with
  | nil => simp [winningRefinement]
  | cons head rest ih =>
    rw [List.forall_mem_cons, ← ih (k := k + 1), List.zipIdx_cons, winningRefinement]
    split
    next hrest => simp [hrest]
    next hrest => rw [hrest]; split <;> simp

/-- The refinement that `winningRefinement` answers wins, and comes with its position. -/
theorem winsAt_of_winningRefinement {dialled : List Nat} {l : List Refinement} {k p : Nat}
    {r : Refinement} (h : winningRefinement dialled (l.zipIdx k) = some (r, p)) :
    ∃ n, p = n + k ∧ WinsAt dialled l n r := by
  induction l generalizing k p r with
  | nil => simp [winningRefinement] at h
  | cons head rest ih =>
    rw [List.zipIdx_cons, winningRefinement] at h
    split at h
    next hrest =>
      have hnone := winningRefinement_eq_none_iff.mp hrest
      obtain ⟨hfits, hhead⟩ := Option.ite_none_right_eq_some.mp h
      obtain ⟨rfl, rfl⟩ := Prod.mk.inj (Option.some.inj hhead)
      exact ⟨0, by omega, .head hfits fun r' hr' hfits' => by simp [hnone r' hr'] at hfits'⟩
    next w m hrest =>
      obtain ⟨n, rfl, hwins⟩ := ih hrest
      split at h
      next hlonger =>
        rw [Bool.and_eq_true, decide_eq_true_eq] at hlonger
        obtain ⟨hfits, hle⟩ := hlonger
        obtain ⟨rfl, rfl⟩ := Prod.mk.inj (Option.some.inj h)
        exact ⟨0, by omega, .head hfits fun r' hr' hfits' =>
          (hwins.length_le hr' hfits').trans hle⟩
      next hshorter =>
        obtain ⟨rfl, rfl⟩ := Prod.mk.inj (Option.some.inj h)
        exact ⟨n + 1, by omega, hwins.cons fun hfits => by simpa [hfits] using hshorter⟩

/-! ## The outcome -/

theorem analyse_of_none_fits {dialled : List Nat} {e : AreaEntry}
    (hnone : ∀ r ∈ e.refinements, r.fits dialled = false) (key : Nat) :
    analyse key dialled e = ⟨.areaDefault, 0, some key, e.routeList, e.distance⟩ := by
  rw [analyse, winningRefinement_eq_none_iff.mpr hnone]

/-- Positions count from 1 (R56). -/
theorem analyse_of_some_fits {dialled : List Nat} {e : AreaEntry}
    (hsome : ∃ r ∈ e.refinements, r.fits dialled = true) (key : Nat) :
    ∃ n r, WinsAt dialled e.refinements n r ∧
      analyse key dialled e = ⟨.refinement, n + 1, some key, r.routeList, r.distance⟩ := by
  have hne : winningRefinement dialled (e.refinements.zipIdx 1) ≠ none := by
    obtain ⟨r, hr, hfits⟩ := hsome
    intro hnone
    simp [winningRefinement_eq_none_iff.mp hnone r hr] at hfits
  obtain ⟨⟨r, p⟩, hwinner⟩ := Option.ne_none_iff_exists'.mp hne
  obtain ⟨n, rfl, hwins⟩ := winsAt_of_winningRefinement hwinner
  exact ⟨n, r, hwins, by rw [analyse, hwinner]⟩

/-! ## O28 -/

/-- Settles O28: the entry by its bytes, the fit of a refinement by R55, and the winner by induction
over the refinements with their positions. -/
theorem longestEarliestRefinementWins : Obligations.LongestEarliestRefinementWins := by
  refine ⟨fun line => ⟨rfl, rfl, rfl, by simp [areaEntryOf], fun n hn => ?record⟩,
    fun r dialled hdigits => r.fits_iff hdigits,
    fun key dialled e => ⟨fun hnone => analyse_of_none_fits hnone key, fun hsome => ?winner⟩⟩
  case record =>
    obtain ⟨hlength, hroute, hdistance⟩ := refinementOf_fields line n
    exact ⟨refinementOf line n, areaEntryOf_refinement line hn, hlength, hroute, hdistance,
      refinementOf_digits_length line n, fun j hj => refinementOf_digit line n hj⟩
  case winner =>
    obtain ⟨n, r, hwins, houtcome⟩ := analyse_of_some_fits hsome key
    exact ⟨n, r, hwins.at_index, hwins.fits, hwins.beats, houtcome⟩

end Sys2Proof.Machine
end

section
/-! SUPPORT. GROUP_SET: the operands it checks and takes, the record that its ten items leave, and the
settlement of O23 (R65 to R69). -/

namespace Sys2Proof.Machine

/-! ## Operands under their encodings (R65) -/

theorem depthOf_eq_none_iff {code : Nat} : depthOf code = none ↔ 3 < code := by
  match code with
  | 0 | 1 | 2 | 3 | n + 4 => simp [depthOf]

theorem depthOf_value {code : Nat} {k : Depth} (h : depthOf code = some k) :
    k.value = 2 ^ code := by
  unfold depthOf at h
  split at h <;> cases h <;> rfl

theorem modeOf_eq_none_iff {code : Nat} : modeOf code = none ↔ 1 < code := by
  match code with
  | 0 | 1 | n + 2 => simp [modeOf]

theorem modeOf_eq_some {code : Nat} {m : Mode} (h : modeOf code = some m) :
    m = if code = 0 then .auto else .held := by
  unfold modeOf at h
  split at h <;> cases h <;> rfl

theorem twoValued_eq_none_iff {code : Nat} : twoValued code = none ↔ 1 < code := by
  match code with
  | 0 | 1 | n + 2 => simp [twoValued]

theorem twoValued_eq_some {code : Nat} {b : Bool} (h : twoValued code = some b) :
    b = decide (code = 1) := by
  unfold twoValued at h
  split at h <;> cases h <;> rfl

/-! ## The items that the mask names (R65) -/

section Items
variable {α β : Type} {mask bit : Nat} {value : Option α}

theorem checkedItem_eq_none_iff :
    checkedItem mask bit value = none ↔ mask.testBit bit = true ∧ value = none := by
  unfold checkedItem
  split <;> simp_all

/-- An item seen through the number it encodes: the operand where the mask names it, none else. -/
theorem checkedItem_map {item : Option α} {f : α → β} {code : β}
    (hcode : ∀ a, value = some a → f a = code) (h : checkedItem mask bit value = some item) :
    item.map f = if mask.testBit bit = true then some code else none := by
  unfold checkedItem at h
  split at h <;> cases h <;> simp_all

theorem checkedItem_below {n code : Nat} {item : Option (Fin n)}
    (h : checkedItem mask bit (below n code) = some item) :
    item.map Fin.val = if mask.testBit bit = true then some code else none :=
  checkedItem_map (fun _ hcode => (below_eq_some.mp hcode).symm) h

end Items

/-- A request is taken from a cell exactly when every one of its operands is. -/
theorem FetchedCell.groupRequest_eq_some_iff {c : FetchedCell} {q : GroupRequest} :
    c.groupRequest = some q ↔
      c.operand 18 2 < 2 ^ 10 ∧ below 512 (c.operand 16 2) = some q.group ∧
      checkedItem (c.operand 18 2) 1 (below 64 (c.operand 22 1)) = some q.owner ∧
      checkedItem (c.operand 18 2) 2 (below 16 (c.operand 23 1)) = some q.profileSet ∧
      checkedItem (c.operand 18 2) 3 (depthOf (c.operand 24 1)) = some q.depth ∧
      checkedItem (c.operand 18 2) 4 (modeOf (c.operand 25 1)) = some q.mode ∧
      checkedItem (c.operand 18 2) 5 (below 4 (c.operand 26 1)) = some q.level ∧
      checkedItem (c.operand 18 2) 6 (twoValued (c.operand 27 1)) = some q.isOpen ∧
      q.provisioned = (if (c.operand 18 2).testBit 0 = true then some (c.operand 20 2) else none) ∧
      q.reapply = (c.operand 18 2).testBit 7 ∧ q.resetHistory = (c.operand 18 2).testBit 8 ∧
      q.clearCounts = (c.operand 18 2).testBit 9 := by
  constructor
  · intro h
    simp only [FetchedCell.groupRequest] at h
    split at h
    · split at h
      · cases h
        simp_all
      · cases h
    · cases h
  · obtain ⟨group, provisioned, owner, set, depth, mode, level, isOpen, reapply, reset, clear⟩ := q
    rintro ⟨hmask, hgroup, howner, hset, hdepth, hmode, hlevel, hopen, rfl, rfl, rfl, rfl⟩
    simp_all [FetchedCell.groupRequest]

/-- No request is taken exactly when the group, the mask or an item that the mask names is bad. -/
theorem FetchedCell.groupRequest_eq_none_iff {c : FetchedCell} :
    c.groupRequest = none ↔
      below 512 (c.operand 16 2) = none ∨ 1024 ≤ c.operand 18 2 ∨
      checkedItem (c.operand 18 2) 1 (below 64 (c.operand 22 1)) = none ∨
      checkedItem (c.operand 18 2) 2 (below 16 (c.operand 23 1)) = none ∨
      checkedItem (c.operand 18 2) 3 (depthOf (c.operand 24 1)) = none ∨
      checkedItem (c.operand 18 2) 4 (modeOf (c.operand 25 1)) = none ∨
      checkedItem (c.operand 18 2) 5 (below 4 (c.operand 26 1)) = none ∨
      checkedItem (c.operand 18 2) 6 (twoValued (c.operand 27 1)) = none := by
  constructor
  · intro hnone
    by_contra hgood
    simp only [not_or, Option.ne_none_iff_exists', not_le] at hgood
    obtain ⟨⟨g, hgroup⟩, hmask, ⟨owner, howner⟩, ⟨set, hset⟩, ⟨depth, hdepth⟩, ⟨mode, hmode⟩,
      ⟨level, hlevel⟩, ⟨isOpen, hopen⟩⟩ := hgood
    have hsome := FetchedCell.groupRequest_eq_some_iff
      (q := ⟨g, _, owner, set, depth, mode, level, isOpen, _, _, _⟩).mpr
      ⟨hmask, hgroup, howner, hset, hdepth, hmode, hlevel, hopen, rfl, rfl, rfl, rfl⟩
    simp [hnone] at hsome
  · intro hbad
    by_contra hne
    obtain ⟨q, hq⟩ := Option.ne_none_iff_exists'.mp hne
    obtain ⟨hmask, hgroup, howner, hset, hdepth, hmode, hlevel, hopen, -⟩ :=
      FetchedCell.groupRequest_eq_some_iff.mp hq
    have habove : 1024 ≤ c.operand 18 2 := by
      simpa [hgroup, howner, hset, hdepth, hmode, hlevel, hopen] using hbad
    omega

/-! ## LEVEL and the mode after the request (R66) -/

theorem GroupRequest.levelAllowed_iff {q : GroupRequest} {r : Group} :
    q.levelAllowed r = true ↔ q.level = none ∨ q.mode.getD r.mode = .held := by
  simp [GroupRequest.levelAllowed]

theorem GroupRequest.not_levelAllowed {q : GroupRequest} {r : Group} (hlevel : q.level.isSome = true)
    (hauto : q.mode.getD r.mode = .auto) : ¬ q.levelAllowed r = true := by
  rw [GroupRequest.levelAllowed_iff, hauto]
  simpa [Option.isSome_iff_ne_none] using hlevel

/-! ## The record after the items (R67, R68) -/

theorem Group.resetHistory_eq (now : Tick) (r : Group) :
    r.resetHistory now = { r with
      history := [], tLast := none, holdOffEnd := none,
      quiet := if r.level = 0 then none else some ⟨65535, now⟩ } := by
  unfold Group.resetHistory
  split <;> rename_i hlevel <;> simp [hlevel, Group.startQuiet, Config.longWindow]

theorem Group.writeLevel_eq (l : Level) (row : Vector Control 4) (now : Tick) (r : Group) :
    r.writeLevel l row now = { r with
      level := l, control := row[l], thinning := 0,
      quiet := if r.quiet = none ∧ l ≠ 0 then some ⟨65535, now⟩ else r.quiet } := by
  have hstart : (r.quiet.isNone && l != 0) = decide (r.quiet = none ∧ l ≠ 0) := by
    cases r.quiet <;> by_cases hl : l = 0 <;> simp [hl]
  simp only [Group.writeLevel, hstart, decide_eq_true_eq]
  split <;> rfl

/-- REAPPLY as one record. -/
theorem Group.copyControl_if (b : Bool) (c : Control) (r : Group) :
    (if b = true then r.copyControl c else r) = { r with
      control := if b = true then c else r.control
      thinning := if b = true then 0 else r.thinning } := by
  cases b <;> rfl

/-- The quiet timer after a GROUP_SET: RESET_HISTORY stops it at level 0 and restarts it elsewhere, and
LEVEL starts a stopped one at a level other than 0 (R68). -/
def GroupRequest.quietAfter (q : GroupRequest) (now : Tick) (r : Group) : Option QuietTimer :=
  if q.resetHistory = true then
    if r.level = 0 ∧ q.level.getD r.level = 0 then none else some ⟨65535, now⟩
  else if q.level.isSome = true ∧ r.quiet = none ∧ q.level.getD r.level ≠ 0 then some ⟨65535, now⟩
  else r.quiet

/-- The ten items together, field by field. The split is by LEVEL and RESET_HISTORY, which meet in the
quiet timer, and CLEAR_COUNTS; the level before the request says whether RESET_HISTORY stops it. -/
theorem GroupRequest.apply_eq (q : GroupRequest) (row : Vector Control 4) (now : Tick) (r : Group) :
    q.apply row now r = { q.setFields r with
      level := q.level.getD r.level
      control := if q.level.isSome = true ∨ q.reapply = true then row[q.level.getD r.level]
        else r.control
      thinning := if q.level.isSome = true ∨ q.reapply = true then 0 else r.thinning
      history := if q.resetHistory = true then [] else r.history
      tLast := if q.resetHistory = true then none else r.tLast
      holdOffEnd := if q.resetHistory = true then none else r.holdOffEnd
      quiet := q.quietAfter now r
      seizes := if q.clearCounts = true then 0 else r.seizes
      pressures := if q.clearCounts = true then 0 else r.pressures } := by
  obtain ⟨_, _, _, _, _, _, level, _, reapply, reset, clear⟩ := q
  cases level with
  | none =>
    cases reset <;> cases clear <;>
      simp [GroupRequest.apply, GroupRequest.setFields, GroupRequest.quietAfter,
        Group.resetHistory_eq, Group.copyControl_if]
  | some l =>
    by_cases hrest : r.level = 0 <;> cases reset <;> cases clear <;>
      simp [GroupRequest.apply, GroupRequest.setFields, GroupRequest.quietAfter,
        Group.resetHistory_eq, Group.writeLevel_eq, Group.copyControl_if, hrest]

/-- What an accepted request makes of the record of its group (R67). -/
def State.groupAfter (s : State) (q : GroupRequest) : Group :=
  q.apply (s.profileRow (q.profileSet.getD (s.group q.group).profileSet)) s.now (s.group q.group)

theorem State.groupSet_eq (s : State) (q : GroupRequest) :
    s.groupSet q = s.setGroup q.group (s.groupAfter q) := rfl

/-! ## The request (R65, R66, R69) -/

theorem GroupRequest.clamped_eq (q : GroupRequest) :
    q.clamped = decide (4095 < q.provisioned.getD 0) := by
  unfold GroupRequest.clamped
  split <;> rename_i hprovisioned <;> simp [hprovisioned]

theorem groupSetRequest_of_none {c : FetchedCell} (hnone : c.groupRequest = none) (s : State) :
    groupSetRequest c s = s.complete .badOperand [] := by
  simp [groupSetRequest, hnone]

theorem groupSetRequest_of_level_refused {c : FetchedCell} {q : GroupRequest} {s : State}
    (hq : c.groupRequest = some q) (hrefused : ¬ q.levelAllowed (s.group q.group) = true) :
    groupSetRequest c s = s.complete .badOperand [] := by
  simp [groupSetRequest, hq, hrefused]

theorem groupSetRequest_of_level_allowed {c : FetchedCell} {q : GroupRequest} {s : State}
    (hq : c.groupRequest = some q) (hallowed : q.levelAllowed (s.group q.group) = true) :
    groupSetRequest c s = State.complete .ok
      ((s.groupAfter q).resultFields q.group s.now (decide (4095 < q.provisioned.getD 0)))
      (s.setGroup q.group (s.groupAfter q)) := by
  have hnow : (s.setGroup q.group (s.groupAfter q)).now = s.now := rfl
  simp [groupSetRequest, hq, hallowed, State.groupSet_eq, GroupRequest.clamped_eq, hnow]

theorem exec_groupSet_of_inHand {s : State} {c : FetchedCell} (h : s.InHand .groupSet c) :
    exec .groupSet s = .next (groupSetRequest c s) := onRequest_of_inHand h groupSetRequest

/-! ## O23 -/

/-- Settles O23: the refusals item by item, the items of a request that is taken, and the record it
leaves by `GroupRequest.apply_eq`. -/
theorem groupSetRefusesOrWritesNamedItems : Obligations.GroupSetRefusesOrWritesNamedItems := by
  refine ⟨fun s c hc => ⟨?badOperands, fun hnone => ?refused, fun q mask hq hmask => ?items,
    fun q hq hlevel hauto => ?levelRefused⟩, fun s c q r hc hq hr hlevel =>
    ⟨s.groupAfter q, ?taken, ?record⟩⟩
  case badOperands =>
    simp only [FetchedCell.groupRequest_eq_none_iff, checkedItem_eq_none_iff, below_eq_none,
      depthOf_eq_none_iff, modeOf_eq_none_iff, twoValued_eq_none_iff, Nat.lt_iff_add_one_le]
  case refused =>
    rw [exec_groupSet_of_inHand hc, groupSetRequest_of_none hnone]
  case items =>
    subst hmask
    obtain ⟨-, hgroup, howner, hset, hdepth, hmode, hlevel, hopen, hprovisioned, hreapply, hreset,
      hclear⟩ := FetchedCell.groupRequest_eq_some_iff.mp hq
    refine ⟨(below_eq_some.mp hgroup).symm, hprovisioned, checkedItem_below howner,
      checkedItem_below hset, checkedItem_map (fun _ => depthOf_value) hdepth, ?_,
      checkedItem_below hlevel, ?_, hreapply, hreset, hclear⟩
    · simpa using checkedItem_map (f := id) (fun _ => modeOf_eq_some) hmode
    · simpa using checkedItem_map (f := id) (fun _ => twoValued_eq_some) hopen
  case levelRefused =>
    rw [exec_groupSet_of_inHand hc,
      groupSetRequest_of_level_refused hq (GroupRequest.not_levelAllowed hlevel hauto)]
  case taken =>
    subst hr
    rw [exec_groupSet_of_inHand hc,
      groupSetRequest_of_level_allowed hq (GroupRequest.levelAllowed_iff.mpr hlevel)]
  case record =>
    subst hr
    rw [State.groupAfter, GroupRequest.apply_eq]
    refine ⟨rfl, rfl, fun v hv => ?_, fun hv => ?_, rfl, rfl, rfl, rfl, rfl, rfl, fun hcopied => ?_,
      fun hlevel hreapply => ?_, fun hreset => ?_, fun hreset => ?_, rfl, rfl⟩
    · have hclamp : min 4095 v = if 4095 < v then 4095 else v := by split <;> omega
      simpa [GroupRequest.setFields, hv] using hclamp
    · simp [GroupRequest.setFields, hv]
    · simp [GroupRequest.setFields, hcopied]
    · simp [hlevel, hreapply]
    · simp [GroupRequest.quietAfter, hreset]
    · simp [GroupRequest.quietAfter, hreset]

end Sys2Proof.Machine
end

section
/-! SUPPORT. PROFILE_SET: the value a named field takes, the profile a request leaves, and the
settlement of O24 (R77, R78). -/

namespace Sys2Proof.Machine

/-! ## A field that the mask may name -/

theorem setClamped_named (low high mask bit value old : Nat) :
    setClamped low high (named mask bit value) old
      = if mask.testBit bit = true then clamp low high value else old := by
  unfold named
  split <;> rfl

theorem outOfRange_named (low high mask bit value : Nat) :
    outOfRange low high (named mask bit value) = true
      ↔ mask.testBit bit = true ∧ (value < low ∨ high < value) := by
  unfold named
  split <;> simp_all [outOfRange]

/-- In a range that begins at 0 the clamp only bounds from above. -/
theorem clamp_zero (high value : Nat) : clamp 0 high value = min value high := by
  unfold clamp
  omega

/-! ## The profile after the request (R78) -/

/-- The profile that a PROFILE_SET leaves in place of `old`. -/
def FetchedCell.profileAfter (c : FetchedCell) (old : Control) : Control :=
  let mask := c.operand 18 1
  { altAdmit := setClamped 0 16 (named mask 0 (c.operand 20 1)) old.altAdmit
    reserve := setClamped 0 4095 (named mask 1 (c.operand 26 2)) old.reserve
    tier := Fin.ofNat 4 (setClamped 0 3 (named mask 2 (c.operand 21 1)) old.tier.val)
    stepInterval := setClamped 0 65535 (named mask 3 (c.operand 28 4)) old.stepInterval
    holdOff := setClamped 0 127 (named mask 4 (c.operand 22 1)) old.holdOff
    decay := setClamped 8 255 (named mask 5 (c.operand 24 2)) old.decay }

/-- Whether a named value lies outside its range, the CLAMPED flag. -/
def FetchedCell.profileClamped (c : FetchedCell) : Bool :=
  let mask := c.operand 18 1
  outOfRange 0 16 (named mask 0 (c.operand 20 1))
    || outOfRange 0 4095 (named mask 1 (c.operand 26 2))
    || outOfRange 0 3 (named mask 2 (c.operand 21 1))
    || outOfRange 0 65535 (named mask 3 (c.operand 28 4))
    || outOfRange 0 127 (named mask 4 (c.operand 22 1))
    || outOfRange 8 255 (named mask 5 (c.operand 24 2))

theorem FetchedCell.profileClamped_iff {c : FetchedCell} {mask : Nat} (hmask : mask = c.operand 18 1) :
    c.profileClamped = true ↔
      (mask.testBit 0 = true ∧ 16 < c.operand 20 1) ∨ (mask.testBit 1 = true ∧ 4095 < c.operand 26 2) ∨
      (mask.testBit 2 = true ∧ 3 < c.operand 21 1) ∨ (mask.testBit 3 = true ∧ 65535 < c.operand 28 4) ∨
      (mask.testBit 4 = true ∧ 127 < c.operand 22 1) ∨
      (mask.testBit 5 = true ∧ (c.operand 24 2 < 8 ∨ 255 < c.operand 24 2)) := by
  subst hmask
  simp only [FetchedCell.profileClamped, Bool.or_eq_true, outOfRange_named, Nat.not_lt_zero, false_or,
    or_assoc]

/-- TIER is stored as a number below 4, which the clamp and the old value both are. -/
theorem FetchedCell.profileAfter_tier (c : FetchedCell) (old : Control) :
    (c.profileAfter old).tier.val
      = if (c.operand 18 1).testBit 2 = true then min (c.operand 21 1) 3 else old.tier.val := by
  have hold := old.tier.isLt
  simp only [FetchedCell.profileAfter, setClamped_named, clamp_zero, Fin.val_ofNat]
  split <;> omega

/-! ## The request (R77) -/

theorem profileSetRequest_of_bad {c : FetchedCell}
    (hbad : 15 < c.operand 16 1 ∨ 3 < c.operand 17 1 ∨ 64 ≤ c.operand 18 1) (s : State) :
    profileSetRequest c s = s.complete .badOperand [] := by
  unfold profileSetRequest
  split
  next n l hset hlevel =>
    have hn := below_eq_some.mp hset
    have hl := below_eq_some.mp hlevel
    exact if_neg (by omega)
  next => rfl

theorem profileSetRequest_of_good {c : FetchedCell} {n : SetId} {l : Level}
    (hset : c.operand 16 1 = n.val) (hlevel : c.operand 17 1 = l.val) (hmask : c.operand 18 1 < 64)
    {s : State} {p : Control} (hp : p = c.profileAfter (s.profileRow n)[l]) :
    profileSetRequest c s = (s.setProfile n l p).complete .ok
      [⟨64, 1, n⟩, ⟨65, 1, l⟩, ⟨66, 1, if c.profileClamped = true then 1 else 0⟩, ⟨68, 1, p.altAdmit⟩,
        ⟨69, 1, p.tier⟩, ⟨70, 1, p.holdOff⟩, ⟨71, 1, p.decay⟩, ⟨72, 2, p.reserve⟩,
        ⟨74, 2, p.stepInterval⟩] := by
  subst hp
  have hflag : (if c.profileClamped = true then 1 else 0) = flags [c.profileClamped] := by
    cases c.profileClamped <;> rfl
  unfold profileSetRequest
  rw [below_eq_some.mpr hset, below_eq_some.mpr hlevel, hflag]
  exact if_pos hmask

theorem exec_profileSet_of_inHand {s : State} {c : FetchedCell} (h : s.InHand .profileSet c) :
    exec .profileSet s = .next (profileSetRequest c s) := onRequest_of_inHand h profileSetRequest

/-! ## O24 -/

/-- Settles O24: the refusal and the accepted request are run on the cell in hand, and the profile left
is read field by field. -/
theorem profileSetClampsNamedFields : Obligations.ProfileSetClampsNamedFields := by
  intro s c mask hc hmask
  refine ⟨fun hbad => ?refused, fun n l o hset hlevel hlow ho => ⟨c.profileAfter o, ?taken, ?fields⟩⟩
  case refused =>
    rw [exec_profileSet_of_inHand hc, profileSetRequest_of_bad (hmask ▸ hbad)]
  case taken =>
    rw [exec_profileSet_of_inHand hc,
      profileSetRequest_of_good hset hlevel (hmask ▸ hlow) (congrArg c.profileAfter ho)]
    simp only [FetchedCell.profileClamped_iff hmask]
    rfl
  case fields =>
    subst hmask
    have hdecay : clamp 8 255 (c.operand 24 2) = max 8 (min (c.operand 24 2) 255) := by
      rw [clamp, Nat.min_comm]
    refine ⟨?_, ?_, c.profileAfter_tier o, ?_, ?_, ?_⟩ <;>
      simp only [FetchedCell.profileAfter, setClamped_named, clamp_zero, hdecay]

end Sys2Proof.Machine
end

section
/-! SUPPORT. Pressure events: the three courses, the measurement a capture makes, and the settlement of
O25 and O26 (R81 to R86). -/

namespace Sys2Proof.Machine

/-! ## The three courses (R82 to R84) -/

/-- R82: in hold-off only the quiet timer restarts. -/
theorem Group.pressure_of_holdOff {r : Group} {e : Tick} (hhold : r.holdOffEnd = some e)
    (row : Vector Control 4) (now : Tick) :
    r.pressure row now = ({ r with
      pressures := r.pressures + 1,
      quiet := some ⟨(r.quiet.map QuietTimer.window).getD 65535, now⟩ }, false) := by
  simp only [Group.pressure, hhold]
  rfl

/-- R83: with T_last unset a measurement begins. -/
theorem Group.pressure_of_unmeasured {r : Group} (hhold : r.holdOffEnd = none)
    (hlast : r.tLast = none) (row : Vector Control 4) (now : Tick) :
    r.pressure row now = ({ r with
      pressures := r.pressures + 1, tLast := some now, quiet := some ⟨65535, now⟩ }, false) := by
  simp only [Group.pressure, hhold, hlast]
  rfl

/-- R84: with T_last set a capture is made, and a record that then qualifies is stepped or advised. -/
theorem Group.pressure_of_measured {r : Group} {last : Tick} (hhold : r.holdOffEnd = none)
    (hlast : r.tLast = some last) (row : Vector Control 4) {now : Tick} {c : Group}
    (hc : { r with pressures := r.pressures + 1 }.capture last now = c) :
    r.pressure row now =
      if c.qualifies = true then
        if r.mode = .auto then (c.stepUp row now, true) else (c.adviseUp now, true)
      else (c, false) := by
  subst hc
  obtain ⟨_, _, _, _, _, _, mode, _, _, _, _, _, _, _, _, _, _⟩ := r
  cases hhold
  cases hlast
  cases mode <;> rfl

/-! ## The capture (R73, R84) -/

/-- FI with the most recent min(n, K) captures taken from the front of the history, oldest first. -/
theorem filteredInterval_of_ne_nil {k : Depth} {h : List Nat} (hne : h ≠ []) :
    filteredInterval k h
      = some ((h.drop (h.length - min h.length k.value)).sum / min h.length k.value) := by
  have hdrop : h.length - k.value = h.length - min h.length k.value := by omega
  have hlength : (h.drop (h.length - min h.length k.value)).length = min h.length k.value := by
    rw [List.length_drop]
    omega
  cases h with
  | nil => exact absurd rfl hne
  | cons i h =>
    simp only [filteredInterval, List.take_reverse, List.sum_reverse, List.length_reverse, hdrop,
      hlength]

theorem pushCapture_ne_nil (i : Nat) (h : List Nat) : pushCapture i h ≠ [] := by
  simp [pushCapture]

/-- The record that a pressure event with a capture leaves before any step, its history and FI given. -/
def Group.afterCapture (h : List Nat) (fi : Nat) (now : Tick) (r : Group) : Group :=
  { r with
    pressures := r.pressures + 1, history := h, tLast := some now,
    quiet := some ⟨max 100 (min 65535 (fi * r.control.decay / 8)), now⟩ }

theorem Group.capture_eq_afterCapture {r : Group} {last now : Tick} {h : List Nat} {fi : Nat}
    (hh : pushCapture (captureOf last now) r.history = h) (hfi : filteredInterval r.depth h = some fi) :
    { r with pressures := r.pressures + 1 }.capture last now = r.afterCapture h fi now := by
  simp only [Group.capture, hh, hfi]
  rfl

theorem Group.qualifies_iff {r : Group} {fi : Nat} (hfi : r.fi = some fi) :
    r.qualifies = true ↔ r.level.val < 3 ∧ fi ≤ r.control.stepInterval := by
  simp [Group.qualifies, hfi]

/-! ## The step up and the advisory (R75, R85, R86) -/

theorem levelUp_eq {l m : Level} (h : m.val = l.val + 1) : levelUp l = m := by
  have hm := m.isLt
  exact Fin.ext (by simp [levelUp, ← h])

theorem Group.stepUp_eq {r : Group} {fi : Nat} {l : Level} (hfi : r.fi = some fi)
    (hl : l.val = r.level.val + 1) (row : Vector Control 4) (now : Tick) :
    r.stepUp row now = { r with
      level := l, control := row[l], thinning := 0, change := .level,
      holdOffEnd := holdOffFrom fi row[l].holdOff now,
      quiet := some ⟨max 100 (min 65535 (fi * row[l].decay / 8)), now⟩ } := by
  simp only [Group.stepUp, levelUp_eq hl, hfi]
  rfl

theorem Group.adviseUp_eq {r : Group} {fi : Nat} (hfi : r.fi = some fi) (now : Tick) :
    r.adviseUp now = { r with
      change := .adviseUp, holdOffEnd := holdOffFrom fi r.control.holdOff now } := by
  simp only [Group.adviseUp, hfi]
  rfl

/-! ## O25 -/

/-- Settles O25: two of the three courses, and the event on the part by `State.monitor_eq`. -/
theorem pressureTakesOneCourse : Obligations.PressureTakesOneCourse := by
  refine ⟨fun r row now e hhold => Group.pressure_of_holdOff hhold row now,
    fun r row now hhold hlast => Group.pressure_of_unmeasured hhold hlast row now,
    fun s g x hx => ?part⟩
  case part =>
    subst hx
    exact s.monitor_eq g _

/-! ## O26 -/

/-- Settles O26: the FI of the record after the capture is the mean of the statement, and the course
after it follows whether that record qualifies and the mode. -/
theorem captureMeasuresAndSteps : Obligations.CaptureMeasuresAndSteps := by
  intro r row now last h fi hhold hlast hh hmean
  have hpush : pushCapture (captureOf last now) r.history = h := hh.symm
  have hdepth : filteredInterval r.depth h = some fi := by
    rw [hmean]
    exact filteredInterval_of_ne_nil (hpush ▸ pushCapture_ne_nil _ _)
  have hfi : (r.afterCapture h fi now).fi = some fi := hdepth
  have hqualifies : (r.afterCapture h fi now).qualifies = true ↔
      r.level.val < 3 ∧ fi ≤ r.control.stepInterval := Group.qualifies_iff hfi
  rw [Group.pressure_of_measured hhold hlast row (Group.capture_eq_afterCapture hpush hdepth)]
  refine ⟨fun hstays => ?stays, fun hlevel hstep hauto l hl => ?steps, fun hlevel hstep hheld => ?held⟩
  case stays => exact if_neg (mt hqualifies.mp hstays)
  case steps =>
    rw [if_pos (hqualifies.mpr ⟨hlevel, hstep⟩), if_pos hauto, Group.stepUp_eq hfi hl]
    rfl
  case held =>
    rw [if_pos (hqualifies.mpr ⟨hlevel, hstep⟩), if_neg (by simp [hheld]), Group.adviseUp_eq hfi]
    rfl

end Sys2Proof.Machine
end

section
/-! SUPPORT. The first event of a CRANKBACK: the validity of its handle, its two refusals and the freeing
of a call at its limit, and the settlement of O31 (R109, R110, R119, R120). -/

namespace Sys2Proof.Machine

/-! ## Handles (R119) -/

theorem handleIndex_eq {handle : Nat} {i : CtxId} (h : i.val = handle % 4096) :
    handleIndex handle = i := Fin.ext (by simp [handleIndex, h])

/-- The handle of the index and the generation that two bytes name is the number they hold. -/
theorem handleOf_handleGeneration {handle : Nat} {i : CtxId} (hi : i.val = handle % 4096)
    (hhandle : handle < 2 ^ 16) : handleOf i (handleGeneration handle) = handle := by
  rw [handleOf, handleGeneration, BitVec.toNat_ofNat, hi]
  omega

theorem State.handleValid_iff {s : State} {handle : Nat} {i : CtxId} (hi : handleIndex handle = i) :
    s.handleValid handle = true ↔
      (s.context i).state ≠ .free ∧ (s.context i).generation = handleGeneration handle := by
  subst hi
  simp [State.handleValid, Context.live]

/-! ## Result areas (R176) -/

/-- Fields of value 0 after the others write nothing. -/
theorem layout_append_of_zero (start n : Nat) (fields : List Field) {zeros : List Field}
    (hzeros : ∀ f ∈ zeros, f.value = 0) : layout start n (fields ++ zeros) = layout start n fields := by
  refine List.map_congr_left fun offset _ => ?_
  have hrest := layoutByte_of_zero zeros offset hzeros
  unfold layoutByte at hrest ⊢
  cases hfind : fields.find? (fun f => f.covers offset) with
  | some f => simp [List.find?_append, hfind]
  | none => simpa [List.find?_append, hfind] using hrest

theorem State.complete_append_of_zero (code : ResultCode) (fields : List Field) {zeros : List Field}
    (hzeros : ∀ f ∈ zeros, f.value = 0) (s : State) :
    s.complete code (fields ++ zeros) = s.complete code fields := by
  rw [State.complete_eq, State.complete_eq, layout_append_of_zero 64 64 fields hzeros]

/-- With no choice attempted the attempt count is 0, as is a byte that no field writes. -/
theorem State.endCrankback_no_attempts (i : CtxId) (code : ResultCode) (s : State) :
    s.endCrankback i code [] =
      (s.freeContext i).complete code [⟨64, 2, s.liveHandle i⟩, ⟨92, 2, (s.context i).group⟩] :=
  State.complete_append_of_zero code _ (by simp [attemptFields]) _

/-! ## The first event (R109, R110) -/

section FirstEvent
variable {s : State} {c : FetchedCell} {i : CtxId}

theorem exec_crankback_of_inHand (h : s.InHand .crankback c) :
    exec .crankback s = .next (crankbackCell c s) := execCrankback_of_inHand h

theorem crankbackCell_of_stale (hstale : s.handleValid (c.operand 16 2) = false) :
    crankbackCell c s = s.complete .staleHandle (s.handleRefusal (c.operand 16 2)) := by
  simp [crankbackCell, hstale]

theorem crankbackCell_of_answered (hi : handleIndex (c.operand 16 2) = i)
    (hvalid : s.handleValid (c.operand 16 2) = true) (hanswered : (s.context i).state = .answered) :
    crankbackCell c s = s.complete .wrongState
      (s.handleRefusal (c.operand 16 2) ++ [⟨92, 2, (s.context i).group⟩]) := by
  subst hi
  simp [crankbackCell, hvalid, hanswered]

theorem crankbackCell_of_limit (hi : handleIndex (c.operand 16 2) = i)
    (hvalid : s.handleValid (c.operand 16 2) = true) (hseized : (s.context i).state = .seized)
    (hlimit : 2 ≤ (s.context i).crankbacks) :
    crankbackCell c s
      = (s.pressure (s.context i).group).endCrankback i .crankbackLimit [] := by
  subst hi
  simp [crankbackCell, hvalid, hseized, hlimit]

/-- At the limit the context is freed after its pressure event, which leaves the contexts as they are. -/
theorem State.endCrankback_after_pressure {x : Context} {p : State} {g : GroupId}
    (hx : s.context i = x) (hlive : x.live = true) (hp : p = s.pressure g) (code : ResultCode) :
    p.endCrankback i code [] = State.complete code
      [⟨64, 2, handleOf i x.generation⟩, ⟨92, 2, x.group⟩]
      { p with
        groups := p.groups.set x.group
          { p.group x.group with busy := (p.group x.group).busy - 1 },
        ct := { s.ct with
          contexts := s.ct.contexts.set i x.freed, freeFifo := s.ct.freeFifo ++ [i] } } := by
  have hct : p.ct = s.ct := by rw [hp, State.pressure_ct]
  have hpx : p.context i = x := (State.context_congr hct i).trans hx
  rw [State.endCrankback_no_attempts, State.liveHandle, State.freeContext_of_live hpx hlive, hpx, hct]

end FirstEvent

/-! ## O31 -/

/-- Settles O31: the handle decides the first refusal and the state the second, both on the part as it
stands; the call at its limit is freed on the part that its pressure event leaves. -/
theorem crankbackRefusesAndLimits : Obligations.CrankbackRefusesAndLimits := by
  intro s c i x hc hi hx
  subst hx
  have hindex := handleIndex_eq hi
  have hvalid := s.handleValid_iff hindex
  have hrefusal : s.handleRefusal (c.operand 16 2) =
      [⟨64, 2, c.operand 16 2⟩, ⟨66, 1, (s.context i).state.code⟩,
        ⟨67, 1, (s.context i).generation.toNat⟩] := by
    rw [State.handleRefusal, hindex]
  rw [exec_crankback_of_inHand hc]
  refine ⟨fun hstale => ?stale, fun hanswered hgen => ?answered,
    fun hseized hgen hmoved p hp => ?limit⟩
  case stale =>
    have hinvalid : s.handleValid (c.operand 16 2) = false :=
      Bool.eq_false_iff.mpr fun h => hstale.elim (hvalid.mp h).1 fun hne => hne (hvalid.mp h).2
    rw [crankbackCell_of_stale hinvalid, hrefusal]
  case answered =>
    rw [crankbackCell_of_answered hindex (hvalid.mpr ⟨by simp [hanswered], hgen⟩) hanswered, hrefusal]
    rfl
  case limit =>
    have hlive : (s.context i).live = true := by simp [Context.live, hseized]
    have hhandle : handleOf i (s.context i).generation = c.operand 16 2 :=
      hgen ▸ handleOf_handleGeneration hi (leNat_lt c.operands 0 2)
    rw [crankbackCell_of_limit hindex (hvalid.mpr ⟨by simp [hseized], hgen⟩) hseized hmoved.ge, ← hp,
      State.endCrankback_after_pressure rfl hlive hp, hhandle]
    rfl

end Sys2Proof.Machine
end

section
/-! SUPPORT. ENGINE_SET: the limit and the CLAMPED flag of its result, the counts of contexts, and the
settlement of O38 (R126). -/

namespace Sys2Proof.Machine

/-! ## Counts of contexts -/

/-- The contexts listed by their indices. -/
theorem State.map_context_finRange (s : State) :
    (List.finRange 4096).map s.context = s.ct.contexts.toList := by
  rw [← List.ofFn_eq_map, ← Vector.toList_ofFn]
  exact congrArg Vector.toList (Vector.ext fun j hj => by simp [State.context])

/-- The counts that ENGINE_SET reports are counts of indices. -/
theorem State.countContexts_eq_countP_finRange (s : State) (k : CallState) :
    s.countContexts k = (List.finRange 4096).countP fun i => (s.context i).state == k := by
  rw [State.countContexts, ← State.map_context_finRange, List.countP_map]
  rfl

/-! ## The request (R126) -/

/-- The answer limit that an ENGINE_SET leaves. -/
def State.limitAfter (c : FetchedCell) (s : State) : Nat :=
  if c.flag 16 = true then min 3600 (c.operand 18 2) else s.ct.answerLimit

theorem engineSetRequest_eq (c : FetchedCell) (s : State) :
    engineSetRequest c s = State.complete .ok
      [⟨64, 2, s.ct.answerLimit⟩, ⟨66, 2, s.limitAfter c⟩,
        ⟨68, 1, if c.flag 16 = true ∧ 3600 < c.operand 18 2 then 1 else 0⟩,
        ⟨70, 2, s.ct.freeFifo.length⟩, ⟨72, 2, s.countContexts .seized⟩,
        ⟨74, 2, s.countContexts .answered⟩]
      { s with ct := { s.ct with answerLimit := s.limitAfter c } } := by
  have hclamped : flags [c.flag 16 && decide (3600 < c.operand 18 2)]
      = if c.flag 16 = true ∧ 3600 < c.operand 18 2 then 1 else 0 := by
    simp [flags, Bool.toNat, Bool.cond_eq_ite]
  simp only [engineSetRequest, State.limitAfter, hclamped, Nat.min_comm]

theorem exec_engineSet_of_inHand {s : State} {c : FetchedCell} (h : s.InHand .engineSet c) :
    exec .engineSet s = .next (engineSetRequest c s) := onRequest_of_inHand h engineSetRequest

/-! ## O38 -/

/-- Settles O38: the request is run on the cell in hand, and its two counts are counts of indices. -/
theorem engineSetStoresAnswerLimit : Obligations.EngineSetStoresAnswerLimit := by
  intro s c limit hc hlimit
  have hafter : s.limitAfter c = limit := hlimit.symm
  rw [exec_engineSet_of_inHand hc, engineSetRequest_eq, hafter,
    State.countContexts_eq_countP_finRange, State.countContexts_eq_countP_finRange]

end Sys2Proof.Machine
end

section
/-! SUPPORT. RELEASE up to the charge: its operands, the stale handle and the release of a SEIZED call,
and the settlement of O35 (R119, R120, R122, R123). -/

namespace Sys2Proof.Machine

/-! ## Causes (R122) -/

theorem releaseCause_eq_none_iff {code : Nat} : releaseCause code = none ↔ 3 < code := by
  match code with
  | 0 | 1 | 2 | 3 | n + 4 => simp [releaseCause]

theorem releaseCause_code {code : Nat} {cause : ReleaseCause} (h : releaseCause code = some cause) :
    cause.code = code := by
  unfold releaseCause at h
  split at h <;> cases h <;> rfl

theorem ReleaseCause.eq_farCongestion_iff {cause : ReleaseCause} :
    cause = .farCongestion ↔ cause.code = 2 := by
  cases cause <;> decide

/-! ## Handles and event ages (R119, R122) -/

theorem State.handleValid_eq_false_iff {s : State} {handle : Nat} {i : CtxId}
    (hi : handleIndex handle = i) :
    s.handleValid handle = false ↔
      (s.context i).state = .free ∨ (s.context i).generation ≠ handleGeneration handle := by
  rw [Bool.eq_false_iff, Ne, State.handleValid_iff hi, not_and_or, not_not]

theorem State.handleRefusal_eq {s : State} {handle : Nat} {i : CtxId} (hi : handleIndex handle = i) :
    s.handleRefusal handle = [⟨64, 2, handle⟩, ⟨66, 1, (s.context i).state.code⟩,
      ⟨67, 1, (s.context i).generation.toNat⟩] := by
  rw [State.handleRefusal, hi]

/-- Both parts of an aged tick: the clamp flag compares the ages, and the flag chooses the tick. -/
theorem agedTick_eq {reference now tick : Tick} {age : Nat} {clamped : Bool}
    (hclamped : clamped = decide ((now - reference).toNat < age))
    (htick : tick = if clamped = true then reference else now - BitVec.ofNat 32 age) :
    agedTick reference now age = (tick, clamped) := by
  obtain hlt | hle := Nat.lt_or_ge (now - reference).toNat age
  · rw [agedTick_of_lt hlt, htick, hclamped, decide_eq_true hlt, if_pos rfl]
  · rw [agedTick_of_le hle, htick, hclamped, decide_eq_false (Nat.not_lt.mpr hle), if_neg nofun]

/-! ## The release of a SEIZED call (R123) -/

/-- The pressure event before the freeing leaves the contexts as they are, so that the context freed is
the one released. -/
theorem State.releaseUncharged_eq {s p : State} {r : PendingRelease} {x : Context}
    (hx : s.context r.ctx = x) (hlive : x.live = true)
    (hp : p = if r.cause = .farCongestion then s.pressure x.group else s) :
    s.releaseUncharged r = State.complete .ok
      [⟨64, 2, handleOf r.ctx x.generation⟩, ⟨66, 2, x.group⟩, ⟨70, 1, r.cause.code⟩,
        ⟨71, 1, 2 * r.ageClamped.toNat⟩, ⟨72, 4, r.releaseTick.toNat⟩]
      { p with
        groups := p.groups.set x.group
          { p.group x.group with busy := (p.group x.group).busy - 1 },
        ct := { s.ct with
          contexts := s.ct.contexts.set r.ctx x.freed, freeFifo := s.ct.freeFifo ++ [r.ctx] } } := by
  have hct : p.ct = s.ct := by
    rw [hp]
    split
    · exact State.pressure_ct s x.group
    · rfl
  have hpx : p.context r.ctx = x := (State.context_congr hct r.ctx).trans hx
  have hflags : flags [false, r.ageClamped] = 2 * r.ageClamped.toNat := by simp [flags]
  simp only [State.releaseUncharged, hx, ← hp, State.freeContext_of_live hpx hlive, hct, hflags]

/-! ## The request (R122) -/

section Request
variable {s : State} {c : FetchedCell} {i : CtxId} {cause : ReleaseCause}

theorem releaseRequest_of_no_cause (hcause : releaseCause (c.operand 18 1) = none) :
    releaseRequest c s = s.complete .badOperand [] := by
  simp [releaseRequest, hcause]

theorem releaseRequest_of_stale (hcause : releaseCause (c.operand 18 1) = some cause)
    (hstale : s.handleValid (c.operand 16 2) = false) :
    releaseRequest c s = s.complete .staleHandle (s.handleRefusal (c.operand 16 2)) := by
  simp [releaseRequest, hcause, hstale]

theorem releaseRequest_of_seized {tick : Tick} {clamped : Bool}
    (hcause : releaseCause (c.operand 18 1) = some cause) (hi : handleIndex (c.operand 16 2) = i)
    (hvalid : s.handleValid (c.operand 16 2) = true) (hseized : (s.context i).state = .seized)
    (haged : agedTick (s.context i).seizeTick s.now (c.operand 19 1) = (tick, clamped)) :
    releaseRequest c s = s.releaseUncharged ⟨i, cause, tick, clamped⟩ := by
  subst hi
  simp [releaseRequest, hcause, hvalid, hseized, haged]

theorem exec_release_of_inHand (h : s.InHand .release c) :
    exec .release s = .next (releaseRequest c s) := onRequest_of_inHand h releaseRequest

end Request

/-! ## O35 -/

/-- Settles O35: the cause decides the first refusal and the handle the second; a SEIZED call is freed
on the part that its pressure event, if there is one, leaves. -/
theorem releaseOfSeizedCallFreesIt : Obligations.ReleaseOfSeizedCallFreesIt := by
  intro s c i x handle hc hhandle hi hx
  subst hhandle hx
  have hindex := handleIndex_eq hi
  have hknown (hle : c.operand 18 1 ≤ 3) : ∃ cause, releaseCause (c.operand 18 1) = some cause :=
    Option.ne_none_iff_exists'.mp (mt releaseCause_eq_none_iff.mp (Nat.not_lt.mpr hle))
  rw [exec_release_of_inHand hc]
  refine ⟨fun habove => ?badCause, fun hle hstale => ?stale,
    fun hle hseized hgen clamped tick p hclamped htick hp => ?seized⟩
  case badCause =>
    rw [releaseRequest_of_no_cause (releaseCause_eq_none_iff.mpr habove)]
  case stale =>
    obtain ⟨cause, hcause⟩ := hknown hle
    rw [releaseRequest_of_stale hcause ((State.handleValid_eq_false_iff hindex).mpr hstale),
      State.handleRefusal_eq hindex]
  case seized =>
    obtain ⟨cause, hcause⟩ := hknown hle
    have hcode := releaseCause_code hcause
    have hvalid := (s.handleValid_iff hindex).mpr ⟨by simp [hseized], hgen⟩
    have hlive : (s.context i).live = true := by simp [Context.live, hseized]
    have hnumber : handleOf i (s.context i).generation = c.operand 16 2 :=
      hgen ▸ handleOf_handleGeneration hi (leNat_lt c.operands 0 2)
    have hpressed : p = if cause = .farCongestion then s.pressure (s.context i).group else s := by
      simpa only [ReleaseCause.eq_farCongestion_iff, hcode] using hp
    rw [releaseRequest_of_seized hcause hindex hvalid hseized (agedTick_eq hclamped htick),
      State.releaseUncharged_eq rfl hlive hpressed, hnumber, hcode]
    rfl

end Sys2Proof.Machine
end

section
/-! SUPPORT. Carrier agreements: FREEZE and the settlement of O41 (R139). -/

namespace Sys2Proof.Machine

/-- The result's byte 65 is read after the event: bit 1 is the flag just set, bit 2 the one kept. -/
theorem freezeRequest_eq (c : FetchedCell) (s : State) :
    freezeRequest c s = State.complete .ok [⟨65, 1, 2 + 4 * s.agr.freezeInForce.toNat⟩]
      { s with agr := { s.agr with freezePending := true } } := by
  have hflags : flags [false, true, s.agr.freezeInForce] = 2 + 4 * s.agr.freezeInForce.toNat := by
    cases s.agr.freezeInForce <;> rfl
  simp only [freezeRequest, hflags]

theorem exec_freeze_of_inHand {s : State} {c : FetchedCell} (h : s.InHand .freeze c) :
    exec .freeze s = .next (freezeRequest c s) := onRequest_of_inHand h freezeRequest

/-! ## O41 -/

/-- Settles O41: the request is run on the cell in hand, and it reads nothing of that cell. -/
theorem freezeSetsFreezePending : Obligations.FreezeSetsFreezePending := by
  intro s c hc
  rw [exec_freeze_of_inHand hc, freezeRequest_eq]

end Sys2Proof.Machine
end

section
/-! SUPPORT. The charge: its duration and seconds, the billed seconds of one side, the accumulation of a
charge, and the settlements of O43 and O44 (R145 to R149). -/

namespace Sys2Proof.Machine

/-! ## Billed seconds (R146) -/

/-- Rounding up on a grid of step `y` reaches the next grid point at or above `x`. -/
theorem ceilDiv_mul_bounds {y : Nat} (hy : 1 ≤ y) (x : Nat) :
    x ≤ ceilDiv x y * y ∧ ceilDiv x y * y < x + y := by
  have hsplit : (x + y - 1) / y * y + (x + y - 1) % y = x + y - 1 := Nat.div_add_mod' ..
  have hmod : (x + y - 1) % y < y := Nat.mod_lt _ hy
  unfold ceilDiv
  omega

theorem billedUnclamped_of_le {seconds minimum : Nat} (h : seconds ≤ minimum) (increment : Nat) :
    billedUnclamped seconds minimum increment = minimum := if_pos h

theorem billedUnclamped_of_gt {seconds minimum : Nat} (h : minimum < seconds) (increment : Nat) :
    billedUnclamped seconds minimum increment
      = minimum + ceilDiv (seconds - minimum) increment * increment := if_neg (Nat.not_le.mpr h)

/-- Above the minimum the figure is the first point of the increment grid at or above the seconds. -/
theorem billedUnclamped_on_grid {seconds minimum increment : Nat} (hinc : 1 ≤ increment)
    (h : minimum < seconds) :
    seconds ≤ billedUnclamped seconds minimum increment ∧
      billedUnclamped seconds minimum increment < seconds + increment ∧
      (billedUnclamped seconds minimum increment - minimum) % increment = 0 := by
  rw [billedUnclamped_of_gt h, Nat.add_sub_cancel_left]
  obtain ⟨hreach, hstep⟩ := ceilDiv_mul_bounds hinc (seconds - minimum)
  exact ⟨by omega, by omega, Nat.mul_mod_left ..⟩

theorem billedSeconds_of_unclamped {seconds minimum increment : Nat}
    (h : billedUnclamped seconds minimum increment ≤ Config.billedLimit) :
    billedSeconds seconds minimum increment = billedUnclamped seconds minimum increment :=
  Nat.min_eq_left h

/-! ## The charge (R145 to R147) -/

section Charge
variable {i : CtxId} {x : Context} {r : PendingRelease} {seconds : Nat}

theorem Context.charge_duration {answered : Tick} (h : x.answerTick = some answered) :
    (x.charge i r).duration = (r.releaseTick - answered).toNat := by
  simp only [Context.charge, h, Option.getD_some, elapsed]

theorem Context.charge_billedOut (h : seconds = chargedSeconds (x.charge i r).duration) :
    (x.charge i r).billedOut = billedSeconds seconds x.minOut x.incOut := by
  subst h; rfl

theorem Context.charge_billedIn (h : seconds = chargedSeconds (x.charge i r).duration) :
    (x.charge i r).billedIn = billedSeconds seconds x.minIn x.incIn := by
  subst h; rfl

theorem Context.charge_clamped_iff (h : seconds = chargedSeconds (x.charge i r).duration) :
    (x.charge i r).clamped = true ↔
      Config.billedLimit < billedUnclamped seconds x.minOut x.incOut ∨
        Config.billedLimit < billedUnclamped seconds x.minIn x.incIn := by
  subst h
  exact (Bool.or_eq_true ..).to_iff.trans (or_congr decide_eq_true_iff decide_eq_true_iff)

/-- A charge without CLAMPED bills both figures as they came from the grid. -/
theorem Context.charge_unclamped (h : seconds = chargedSeconds (x.charge i r).duration)
    (hclear : (x.charge i r).clamped = false) :
    billedUnclamped seconds x.minOut x.incOut ≤ Config.billedLimit ∧
      billedUnclamped seconds x.minIn x.incIn ≤ Config.billedLimit := by
  have hnone := mt (Context.charge_clamped_iff h).mpr (Bool.eq_false_iff.mp hclear)
  simpa only [not_or, Nat.not_lt] using hnone

theorem Context.charge_answerTime {v : TimeOfWeek} (h : x.answerTime = some v) :
    (x.charge i r).answerTime = v.val := by
  simp only [Context.charge, h, Option.getD_some]

end Charge

/-! ## Accumulation (R148, R149) -/

theorem saturates_iff {limit total x : Nat} : saturates limit total x = true ↔ limit < total + x :=
  decide_eq_true_iff

theorem Account.addOut_sat_iff (a : Account) (amount seconds : Nat) :
    (a.addOut amount seconds).sat = true ↔
      a.sat = true ∨ Config.amountLimit < a.payable + amount ∨
        Config.countLimit < a.outSeconds + seconds ∨ Config.countLimit < a.outCalls + 1 := by
  simp only [Account.addOut, Bool.or_eq_true, saturates_iff, or_assoc]

theorem Account.addIn_sat_iff (a : Account) (amount seconds : Nat) :
    (a.addIn amount seconds).sat = true ↔
      a.sat = true ∨ Config.amountLimit < a.receivable + amount ∨
        Config.countLimit < a.inSeconds + seconds ∨ Config.countLimit < a.inCalls + 1 := by
  simp only [Account.addIn, Bool.or_eq_true, saturates_iff, or_assoc]

/-- The owner's row is applied first, and the incoming carrier's row to the account it leaves. -/
theorem State.accumulate_account (s : State) (r : ChargeRecord) (n : CarrierId) :
    (s.accumulate r).account n =
      if n = r.owner ∧ n = r.incoming then
        ((s.account n).addOut r.payable r.billedOut).addIn r.receivable r.billedIn
      else if n = r.owner then (s.account n).addOut r.payable r.billedOut
      else if n = r.incoming then (s.account n).addIn r.receivable r.billedIn
      else s.account n := by
  simp only [State.accumulate, State.setAccount_account]
  by_cases hincoming : r.incoming = n
  · subst hincoming
    by_cases howner : r.owner = r.incoming
    · simp [howner]
    · simp [howner, Ne.symm howner]
  · by_cases howner : r.owner = n
    · subst howner
      simp [hincoming, Ne.symm hincoming]
    · simp [hincoming, howner, Ne.symm hincoming, Ne.symm howner]

/-! ## O43 -/

/-- Settles O43: the two rows of one account, the frame, and the account of each carrier. -/
theorem chargesAccumulateAndSaturate : Obligations.ChargesAccumulateAndSaturate := by
  refine ⟨fun a amount seconds _ => ?rows, fun _ _ => rfl, State.accumulate_account⟩
  exact ⟨satAdd_eq_min .., satAdd_eq_min .., satAdd_eq_min .., rfl, rfl, rfl,
    a.addOut_sat_iff amount seconds, satAdd_eq_min .., satAdd_eq_min .., satAdd_eq_min ..,
    rfl, rfl, rfl, a.addIn_sat_iff amount seconds⟩

/-! ## O44 -/

/-- Settles O44: the two sides differ only in their minimum and increment, so the figure of a side is
argued once from `billedSeconds`. -/
theorem chargeFollowsFrozenTerms : Obligations.ChargeFollowsFrozenTerms := by
  intro i x r answered duration seconds hanswered hincOut hincIn hduration hseconds
  have hticks : (x.charge i r).duration = duration :=
    (Context.charge_duration hanswered).trans hduration.symm
  have hcharged : seconds = chargedSeconds (x.charge i r).duration := by rw [hticks]; exact hseconds
  refine ⟨hticks, Context.charge_clamped_iff hcharged,
    ⟨rfl, rfl, rfl, rfl, rfl, rfl, rfl, rfl, rfl, rfl, rfl, fun _ => Context.charge_answerTime⟩,
    fun m inc b hside => ?figure, rfl, rfl⟩
  have hterms : 1 ≤ inc ∧ b = billedSeconds seconds m inc ∧
      ((x.charge i r).clamped = false → billedUnclamped seconds m inc ≤ Config.billedLimit) := by
    obtain ⟨rfl, rfl, rfl⟩ | ⟨rfl, rfl, rfl⟩ := hside
    · exact ⟨hincOut, Context.charge_billedOut hcharged,
        fun hclear => (Context.charge_unclamped hcharged hclear).1⟩
    · exact ⟨hincIn, Context.charge_billedIn hcharged,
        fun hclear => (Context.charge_unclamped hcharged hclear).2⟩
  obtain ⟨hinc, rfl, hlimit⟩ := hterms
  refine ⟨Nat.min_comm .., Nat.min_le_right .., fun hclear => ?unclamped⟩
  rw [billedSeconds_of_unclamped (hlimit hclear)]
  exact ⟨fun hle => billedUnclamped_of_le hle inc, billedUnclamped_on_grid hinc⟩

end Sys2Proof.Machine
end

section
/-! SUPPORT. What a command can come to, said once for the 62 commands: each case has the guards under
which it comes about, and the statements about every step are case splits over it. -/

namespace Sys2Proof.Machine

/-! ## The cases -/

/-- The command that takes the step of a request of a kind. -/
def RequestKind.command : RequestKind → Instr
  | .nop => .nop
  | .seize => .seize
  | .crankback => .crankback
  | .answer => .answer
  | .release => .release
  | .queryContext => .queryContext
  | .reportChanges => .reportChanges
  | .engineSet => .engineSet
  | .groupSet => .groupSet
  | .queryGroup => .queryGroup
  | .profileSet => .profileSet
  | .agreeSet => .agreeSet
  | .freeze => .freeze
  | .queryCarrier => .queryCarrier
  | .periodClose => .periodClose
  | .invalidate => .invalidate
  | .clockSet => .clockSet
  | .bandSet => .bandSet

/-- The events of CC that leave every other block alone but for a cause, a fault or the settling of the
poll counter (chapter 1). -/
inductive State.ChainEffect (s : State) : Instr → State → Prop where
  | anchorAsked : s.inReset = false → s.cc.state = .idle → s.cc.positionValid = false →
      s.ChainEffect .start s.readAnchor
  | stopNoted : s.cc.state = .fetching ∨ s.cc.state = .working ∨ s.cc.state = .stalled →
      s.ChainEffect .stop { s with cc := { s.cc with stopPending := true } }
  | stopped : s.cc.state = .waiting → s.ChainEffect .stop s.chainIdle
  | faultLeft : s.cc.state = .faulted →
      s.ChainEffect .stop (State.chainIdle { s with cc := { s.cc with positionValid := false } })
  | anchorWritten (half : AnchorHalf) (value : Word32) : s.inReset = false → s.cc.state = .idle →
      s.ChainEffect (.anchorWrite half value) (s.writeAnchor half value)
  | headTaken (a : Access) : s.cc.flight = some ⟨.anchorEngineWrite, a⟩ →
      s.ChainEffect .anchorEngineWriteEnd (State.fetchCell { s with
        cc := { s.cc with held := s.cc.anchor.chainHead, positionValid := true } })
  | dispatched (a : Access) (data : List Byte) : s.cc.flight = some ⟨.cellFetch, a⟩ →
      s.ChainEffect (.cellFetchEnd data) (s.dispatchCell (fetchedCellOf data))
  | resultWritten (code : ResultCode) (a : Access) : s.cc.flight = some ⟨.resultWrite code, a⟩ →
      s.ChainEffect .resultWriteEnd (s.writeStatus code)
  | completedToIdle (a : Access) (u : State) : s.cc.flight = some ⟨.statusWrite, a⟩ →
      u = (if s.notifies then s.raise .cell else s) → s.ChainEffect .statusWriteEnd u.chainIdle
  | completedToLink (a : Access) (u : State) : s.cc.flight = some ⟨.statusWrite, a⟩ →
      u = (if s.notifies then s.raise .cell else s) →
      s.ChainEffect .statusWriteEnd u.dropCell.readLink
  | linkStopped (a : Access) (data : List Byte) : s.cc.flight = some ⟨.linkRead, a⟩ →
      s.ChainEffect (.linkReadEnd data) s.endFlight.chainIdle
  | linkReread (a : Access) (data : List Byte) : s.cc.flight = some ⟨.linkRead, a⟩ →
      s.ChainEffect (.linkReadEnd data)
        (State.readLink { s.endFlight with cc := { s.endFlight.cc with nudgeSeen := false } })
  | linkAwaited (a : Access) (data : List Byte) : s.cc.flight = some ⟨.linkRead, a⟩ →
      s.ChainEffect (.linkReadEnd data) (s.endFlight.enterChain .waiting)
  | retired (a : Access) (data : List Byte) (n : Addr) : s.cc.flight = some ⟨.linkRead, a⟩ →
      s.goodLink n = true → s.ChainEffect (.linkReadEnd data) (s.endFlight.retire n)
  | nextTaken (n : Addr) (a : Access) : s.cc.flight = some ⟨.retireWrite n, a⟩ →
      s.ChainEffect .retireWriteEnd (State.fetchCell { s with cc := { s.cc with held := n } })
  | faulted (c : Instr) (kind : FaultKind) (f : ChainFlight) : s.cc.flight = some f →
      (reach c).chain = true → (reach c).attention = true →
      s.ChainEffect c (s.chainFault kind f.access.base)
  | abandonedReported (n : Nat) (a : Access) : s.cc.abandoned[n]? = some a →
      s.ChainEffect (.chainAbandonedWriteError n) (State.offerFault .errorReply .chain a.base
        { s with cc := { s.cc with abandoned := s.cc.abandoned.eraseIdx n } })
  | releaseStalled (cell : FetchedCell) (r : PendingRelease) : s.InHand .release cell →
      s.ChainEffect .release
        (State.enterChain .stalled { s with cc := { s.cc with work := .stalledRelease r } })
  | closeStalled (cell : FetchedCell) : s.InHand .periodClose cell →
      s.ChainEffect .periodClose
        (State.enterChain .stalled { s with cc := { s.cc with work := .stalledClose } })

/-- The events of JW that leave every other block alone but for a cause, a fault or the settling of the
poll counter (chapter 11). -/
inductive State.JournalEffect (s : State) : Instr → State → Prop where
  | pageOpened (reread : Bool) (a : Access) (data : List Byte) :
      s.jw.flight = some ⟨.opening reread, a⟩ →
      s.JournalEffect (.openingReadEnd data) (s.enterPage (mapEntryOf data).page)
  | pageAwaited (reread : Bool) (a : Access) (data : List Byte) :
      s.jw.flight = some ⟨.opening reread, a⟩ →
      s.JournalEffect (.openingReadEnd data) (s.waitForPage reread)
  | recordWritten (k : RecordKind) (a : Access) : s.jw.flight = some ⟨.record k, a⟩ →
      s.JournalEffect .recordWriteEnd (s.writeCount k)
  | countWritten (k : RecordKind) (a : Access) : s.jw.flight = some ⟨.count k, a⟩ →
      s.JournalEffect .recordCountWriteEnd (State.afterCount k
        (State.recordCounted k { s with jw := { s.jw with flight := none } }))
  | prefetched (a : Access) (data : List Byte) : s.jw.flight = some ⟨.prefetch, a⟩ →
      s.JournalEffect (.prefetchReadEnd data) (State.journalAdvance
        { s with jw := { s.jw with flight := none, prefetch := some (mapEntryOf data) } })
  | headerWritten (a : Access) : s.jw.flight = some ⟨.header, a⟩ →
      s.JournalEffect .closingHeaderWriteEnd
        (s.issueJournal .mapClear (s.mapEntryAddress s.jw.mapIndex) 8 (.write (layout 8 1 [])))
  | mapCleared (a : Access) : s.jw.flight = some ⟨.mapClear, a⟩ →
      s.JournalEffect .mapEntryClearEnd
        (State.issueJournal (.engineWrite (s.jw.close == .periodEnd)) s.jw.anchor 140
          (.write (layout 140 12 [⟨140, 2, s.nextMapIndex⟩, ⟨144, 4, (s.jw.sequence + 1).toNat⟩,
            ⟨148, 4, s.ru.period.toNat⟩]))
          { s with
            jw := { s.jw with
              sequence := s.jw.sequence + 1, mapIndex := s.nextMapIndex, slot := 1,
              close := .none,
              prefetch := if s.cc.anchor.mapLength = 1 then none else s.jw.prefetch } })
  | closed (periodEnd : Bool) (a : Access) : s.jw.flight = some ⟨.engineWrite periodEnd, a⟩ →
      s.JournalEffect .journalEngineWriteEnd (s.finishClose periodEnd).openAfterClose
  | faulted (c : Instr) (kind : FaultKind) (f : JournalFlight) : s.jw.flight = some f →
      (reach c).journal = true → (reach c).attention = true →
      s.JournalEffect c (s.journalFault kind f)
  | abandonedReported (n : Nat) (a : Access) : s.jw.abandoned[n]? = some a →
      s.JournalEffect (.journalAbandonedWriteError n) (State.offerFault .errorReply .journal a.base
        { s with jw := { s.jw with abandoned := s.jw.abandoned.eraseIdx n } })

/-- What the event of a request changes before its cell completes: nothing of CC or of the poll counter.
-/
inductive State.RequestChange (s : State) : RequestKind → State → Prop where
  | unchanged (k : RequestKind) : k ≠ .seize → s.RequestChange k s
  | clockSet (v : TimeOfWeek) :
      s.RequestChange .clockSet { s with tb := { s.tb with timeOfWeek := v } }
  | bandsSet (v : Vector Band 336) :
      s.RequestChange .bandSet { s with tb := { s.tb with bands := v } }
  | linesDropped (test : Tag → Bool) : s.RequestChange .invalidate (s.dropLines test)
  | group (q : GroupRequest) : s.RequestChange .groupSet (s.groupSet q)
  | profile (cell : FetchedCell) (n : SetId) (l : Level) : s.RequestChange .profileSet
      (s.setProfile n l (cell.profileAfter (s.profileRow n)[l]))
  | agreement (cell : FetchedCell) (r : AgreeRequest) : cell.agreeRequest = some r →
      (s.agr.freezeInForce && !r.namesNothing) = false →
      s.RequestChange .agreeSet (s.agreeSet r)
  | freeze : s.RequestChange .freeze { s with agr := { s.agr with freezePending := true } }
  | limit (n : Nat) : s.RequestChange .engineSet { s with ct := { s.ct with answerLimit := n } }
  | reported : s.RequestChange .reportChanges
      ((s.changes.take Config.reportEntries).foldl State.clearChange s)
  | answered (i : CtxId) (tick : Tick) : (s.context i).state = .seized →
      s.RequestChange .answer (s.setContext i { s.context i with
        state := .answered, answerTick := some tick, answerTime := some s.tb.timeOfWeek,
        overdue := false, overdueReported := false })
  | released (i : CtxId) (far : Bool) : s.RequestChange .release
      ((if far then s.pressure (s.context i).group else s).freeContext i)
  | charged (r : PendingRelease) : s.holdFree = true →
      s.RequestChange .release (s.chargeEvent r)
  | closed : s.closeReady = true → s.RequestChange .periodClose s.closeEvent

/-- The events of a SEIZE or of a CRANKBACK and the ends of the fills they wait for. -/
inductive State.RouteEffect (s : State) : Instr → State → Prop where
  | seized (cell : FetchedCell) : s.InHand .seize cell →
      s.RouteEffect .seize (seizeFirstEvent cell s)
  | crankedBack (cell : FetchedCell) : s.InHand .crankback cell →
      s.RouteEffect .crankback (crankbackCell cell s)
  | walked (p : WalkFor) (attempts : List Attempt) (choices : List Choice) :
      s.WalkInHand p attempts choices →
      s.RouteEffect p.command (s.walkEvent p attempts choices)
  | filled (f : Fill) (data : List Byte) : s.tau.fill = some f →
      s.RouteEffect (.fillCompletion data) (f.requester.onLine (readBytes f.tag.kind.bytes data)
        { s with tau := {
          lines := installLine ⟨f.tag, readBytes f.tag.kind.bytes data⟩ s.tau.lines,
          fill := none } })
  | fillFailed (c : Instr) (kind : FaultKind) (f : Fill) : s.tau.fill = some f →
      c = .fillFault ∨ c = .fillNoReply → s.RouteEffect c (s.tableFault kind f)

/-- What each command can come to. -/
inductive State.Effect (s : State) : Instr → State → Prop where
  | nothing (c : Instr) : s.Effect c s
  | chain {c : Instr} {t : State} : s.ChainEffect c t → s.Effect c t
  | journal {c : Instr} {t : State} : s.JournalEffect c t → s.Effect c t
  | completed {k : RequestKind} {cell : FetchedCell} {u : State} (code : ResultCode)
      (fields : List Field) : s.InHand k cell → s.RequestChange k u →
      s.Effect k.command (u.complete code fields)
  | releaseResumed (r : PendingRelease) (fields : List Field) : s.cc.state = .stalled →
      s.holdFree = true → s.Effect .stalledCellResume ((s.chargeEvent r).complete .ok fields)
  | closeResumed (fields : List Field) : s.cc.state = .stalled → s.closeReady = true →
      s.Effect .stalledCellResume (s.closeEvent.complete .ok fields)
  | routed {c : Instr} {t : State} : s.RouteEffect c t → s.Effect c t
  | started : s.cc.state = .idle → s.cc.positionValid = true →
      s.Effect .start s.readLink.startJournal
  | restarted : s.inReset = false → s.Effect .restart s.restart
  | cold : s.inReset = false → s.Effect .cold s.coldReset
  | nudged (value : Word32) : s.inReset = false →
      s.Effect (.nudge value) s.nudgeChain.nudgeJournal
  | statusWritten (value : Word32) : s.inReset = false → s.Effect (.attnStatusWrite value) { s with
      afl := s.afl.update (s.afl.status &&& ~~~(value.truncate 6)) s.afl.enable }
  | enableWritten (value : Word32) : s.inReset = false → s.Effect (.attnEnableWrite value) { s with
      afl := s.afl.update s.afl.status (value.truncate 6) }
  | captureCleared (value : Word32) : s.inReset = false → s.Effect (.faultInfoWrite value)
      { s with afl := { s.afl with capture := none } }
  | pinReset : s.Effect .resetPin
      { s.coldReset with resets := { s.coldReset.resets with pin := true } }
  | linkReset (kind : LinkResetKind) : s.Effect (.linkReset kind)
      { s.coldReset with resets := { s.coldReset.resets with link := true } }
  | resetReleased (source : ResetSource) (r : ResetLines) :
      (r.pin = true → s.resets.pin = true) → (r.link = true → s.resets.link = true) →
      s.Effect (.resetRelease source) { s with resets := r }
  | ticked : s.inReset = false →
      s.Effect .tickAdvance s.takeGroupExpiries.takeOverdueExpiries.advanceTick
  | pollCounted : s.pollCounting = true → s.pollReaches = false → s.Effect .pollTick
      { s with tb := { s.tb with pollCounter := s.tb.pollCounter + 1 } }
  | pollExpired (c : Instr) : s.pollCounting = true → c = .pollTick ∨ c = .pollExpiry →
      s.Effect c s.pollExpiry
  | quietExpired (g : GroupId) : (s.group g).quietDue s.now = true → s.Effect (.quietExpiry g)
      (s.monitor g ((s.group g).quietExpiry (s.profileRow (s.group g).profileSet) s.now))
  | holdOffEnded (g : GroupId) : (s.group g).holdOffDue s.now = true → s.Effect (.holdOffEnd g)
      (s.setGroup g (s.group g).endHoldOff)
  | overdue (i : CtxId) : s.overdueDue i = true → s.Effect (.overdueExpiry i)
      ((s.setContext i { s.context i with overdue := true }).raise .change)
  | anchorLoaded (a : Access) (data : List Byte) : s.cc.flight = some ⟨.anchorRead, a⟩ →
      (anchorFieldsOf data).valid = true →
      s.Effect (.anchorReadEnd data) (s.endFlight.loadAnchor (anchorFieldsOf data))

/-- A command answers a next state that it can come to. -/
def State.Comes (s : State) (c : Instr) (answer : Answer) : Prop :=
  ∃ t, answer = .next t ∧ s.Effect c t

theorem State.Effect.comes {s t : State} {c : Instr} (h : s.Effect c t) : s.Comes c (.next t) :=
  ⟨t, rfl, h⟩

theorem State.comes_nothing (s : State) (c : Instr) : s.Comes c (.next s) := (Effect.nothing c).comes

theorem onRegisterWrite_comes {s : State} {c : Instr} {take : State → State}
    (h : s.inReset = false → s.Effect c (take s)) : s.Comes c (onRegisterWrite take s) := by
  obtain ⟨-, hrun⟩ | ⟨hfree, hrun⟩ := onRegisterWrite_cases take s
  · exact hrun ▸ s.comes_nothing c
  · exact hrun ▸ (h hfree).comes

theorem onRequest_comes {s : State} {k : RequestKind} {carryOut : FetchedCell → State → State}
    (h : ∀ cell, s.InHand k cell → s.Effect k.command (carryOut cell s)) :
    s.Comes k.command (onRequest k carryOut s) := by
  obtain ⟨cell, hcell, hrun⟩ | ⟨-, hrun⟩ := onRequest_cases k carryOut s
  · exact hrun ▸ (h cell hcell).comes
  · exact hrun ▸ s.comes_nothing _

/-! ## Register writes, resets and ticks -/

theorem State.start_effect {s : State} (h : s.inReset = false) : s.Effect .start s.start := by
  unfold State.start
  split
  case isTrue hidle =>
    split
    case isTrue hvalid => exact .started hidle hvalid
    case isFalse hvalid => exact .chain (.anchorAsked h hidle (Bool.eq_false_iff.mpr hvalid))
  case isFalse => exact .nothing _

theorem State.stop_effect (s : State) : s.Effect .stop s.stop := by
  unfold State.stop
  split
  case h_1 => exact .nothing _
  case h_2 h => exact .chain (.stopped h)
  case h_3 h => exact .chain (.stopNoted (.inl h))
  case h_4 h => exact .chain (.stopNoted (.inr (.inl h)))
  case h_5 h => exact .chain (.stopNoted (.inr (.inr h)))
  case h_6 h => exact .chain (.faultLeft h)

theorem State.writeAnchor_effect {s : State} (hfree : s.inReset = false) (half : AnchorHalf)
    (value : Word32) : s.Effect (.anchorWrite half value) (s.writeAnchor half value) := by
  by_cases hidle : s.cc.state = .idle
  · exact .chain (.anchorWritten half value hfree hidle)
  · unfold State.writeAnchor
    rw [if_neg hidle]
    exact .nothing _

theorem execResetRelease_comes (s : State) (source : ResetSource) :
    s.Comes (.resetRelease source) (execResetRelease source s) := by
  cases source
  case pin => exact (State.Effect.resetReleased _ ⟨false, s.resets.link⟩ nofun id).comes
  case link => exact (State.Effect.resetReleased _ ⟨s.resets.pin, false⟩ id nofun).comes

theorem execTickAdvance_comes (s : State) : s.Comes .tickAdvance (execTickAdvance s) := by
  unfold execTickAdvance
  split
  case isTrue => exact s.comes_nothing _
  case isFalse h => exact (State.Effect.ticked (Bool.eq_false_iff.mpr h)).comes

theorem execPollTick_comes (s : State) : s.Comes .pollTick (execPollTick s) := by
  unfold execPollTick
  split
  case isTrue hcounting =>
    split
    case isTrue => exact (State.Effect.pollExpired _ hcounting (.inl rfl)).comes
    case isFalse h => exact (State.Effect.pollCounted hcounting (Bool.eq_false_iff.mpr h)).comes
  case isFalse => exact s.comes_nothing _

theorem execPollExpiry_comes (s : State) : s.Comes .pollExpiry (execPollExpiry s) := by
  unfold execPollExpiry
  split
  case isTrue h =>
    exact (State.Effect.pollExpired _ (Bool.and_eq_true_iff.mp h).1 (.inr rfl)).comes
  case isFalse => exact s.comes_nothing _

theorem execQuietExpiry_comes (s : State) (g : GroupId) :
    s.Comes (.quietExpiry g) (execQuietExpiry g s) := by
  unfold execQuietExpiry
  simp only
  split
  case isTrue h => exact (State.Effect.quietExpired g h).comes
  case isFalse => exact s.comes_nothing _

theorem execHoldOffEnd_comes (s : State) (g : GroupId) :
    s.Comes (.holdOffEnd g) (execHoldOffEnd g s) := by
  unfold execHoldOffEnd
  simp only
  split
  case isTrue h => exact (State.Effect.holdOffEnded g h).comes
  case isFalse => exact s.comes_nothing _

theorem execOverdueExpiry_comes (s : State) (i : CtxId) :
    s.Comes (.overdueExpiry i) (execOverdueExpiry i s) := by
  unfold execOverdueExpiry
  split
  case isTrue h => exact (State.Effect.overdue i h).comes
  case isFalse => exact s.comes_nothing _

/-! ## The events of CC -/

theorem execAnchorReadEnd_comes (s : State) (data : List Byte) :
    s.Comes (.anchorReadEnd data) (execAnchorReadEnd data s) := by
  unfold execAnchorReadEnd
  split
  case h_1 a hflight =>
    simp only
    split
    case isTrue hvalid => exact (State.Effect.anchorLoaded a data hflight hvalid).comes
    case isFalse => exact (State.Effect.chain (.faulted _ _ _ hflight rfl rfl)).comes
  case h_2 => exact s.comes_nothing _

theorem execAnchorEngineWriteEnd_comes (s : State) :
    s.Comes .anchorEngineWriteEnd (execAnchorEngineWriteEnd s) := by
  unfold execAnchorEngineWriteEnd
  split
  case h_1 a hflight => exact (State.Effect.chain (.headTaken a hflight)).comes
  case h_2 => exact s.comes_nothing _

theorem execCellFetchEnd_comes (s : State) (data : List Byte) :
    s.Comes (.cellFetchEnd data) (execCellFetchEnd data s) := by
  unfold execCellFetchEnd
  split
  case h_1 a hflight =>
    split
    case isTrue => exact (State.Effect.chain (.dispatched a data hflight)).comes
    case isFalse => exact (State.Effect.chain (.faulted _ _ _ hflight rfl rfl)).comes
  case h_2 => exact s.comes_nothing _

theorem execResultWriteEnd_comes (s : State) : s.Comes .resultWriteEnd (execResultWriteEnd s) := by
  unfold execResultWriteEnd
  split
  case h_1 code a hflight => exact (State.Effect.chain (.resultWritten code a hflight)).comes
  case h_2 => exact s.comes_nothing _

theorem execStatusWriteEnd_comes (s : State) : s.Comes .statusWriteEnd (execStatusWriteEnd s) := by
  unfold execStatusWriteEnd
  split
  case h_1 a hflight =>
    cases s.cc.stopPending
    case true => exact (State.Effect.chain (.completedToIdle a _ hflight rfl)).comes
    case false => exact (State.Effect.chain (.completedToLink a _ hflight rfl)).comes
  case h_2 => exact s.comes_nothing _

theorem execLinkReadEnd_comes (s : State) (data : List Byte) :
    s.Comes (.linkReadEnd data) (execLinkReadEnd data s) := by
  unfold execLinkReadEnd
  split
  case h_1 a hflight =>
    simp only
    split
    · exact (State.Effect.chain (.linkStopped a data hflight)).comes
    · split
      · split
        · exact (State.Effect.chain (.linkReread a data hflight)).comes
        · exact (State.Effect.chain (.linkAwaited a data hflight)).comes
      · split
        case isTrue hgood => exact (State.Effect.chain (.retired a data _ hflight hgood)).comes
        case isFalse => exact (State.Effect.chain (.faulted _ _ _ hflight rfl rfl)).comes
  case h_2 => exact s.comes_nothing _

theorem execRetireWriteEnd_comes (s : State) : s.Comes .retireWriteEnd (execRetireWriteEnd s) := by
  unfold execRetireWriteEnd
  split
  case h_1 n a hflight => exact (State.Effect.chain (.nextTaken n a hflight)).comes
  case h_2 => exact s.comes_nothing _

theorem execChainErrorReply_comes (s : State) :
    s.Comes .chainErrorReply (execChainErrorReply s) := by
  unfold execChainErrorReply
  split
  case h_1 f hflight => exact (State.Effect.chain (.faulted _ _ f hflight rfl rfl)).comes
  case h_2 => exact s.comes_nothing _

theorem execChainNoReply_comes (s : State) : s.Comes .chainNoReply (execChainNoReply s) := by
  unfold execChainNoReply
  split
  case h_1 f hflight =>
    split
    · exact s.comes_nothing _
    · exact (State.Effect.chain (.faulted _ _ f hflight rfl rfl)).comes
  case h_2 => exact s.comes_nothing _

theorem execChainAbandonedWriteError_comes (s : State) (n : Nat) :
    s.Comes (.chainAbandonedWriteError n) (execChainAbandonedWriteError n s) := by
  unfold execChainAbandonedWriteError
  split
  case h_1 a ha => exact (State.Effect.chain (.abandonedReported n a ha)).comes
  case h_2 => exact s.comes_nothing _

/-! ## The events of JW -/

theorem execOpeningReadEnd_comes (s : State) (data : List Byte) :
    s.Comes (.openingReadEnd data) (execOpeningReadEnd data s) := by
  unfold execOpeningReadEnd
  split
  case h_1 reread a hflight =>
    simp only
    split
    · exact (State.Effect.journal (.pageOpened reread a data hflight)).comes
    · exact (State.Effect.journal (.pageAwaited reread a data hflight)).comes
  case h_2 => exact s.comes_nothing _

theorem execRecordWriteEnd_comes (s : State) : s.Comes .recordWriteEnd (execRecordWriteEnd s) := by
  unfold execRecordWriteEnd
  split
  case h_1 k a hflight => exact (State.Effect.journal (.recordWritten k a hflight)).comes
  case h_2 => exact s.comes_nothing _

theorem execRecordCountWriteEnd_comes (s : State) :
    s.Comes .recordCountWriteEnd (execRecordCountWriteEnd s) := by
  unfold execRecordCountWriteEnd
  split
  case h_1 k a hflight => exact (State.Effect.journal (.countWritten k a hflight)).comes
  case h_2 => exact s.comes_nothing _

theorem execPrefetchReadEnd_comes (s : State) (data : List Byte) :
    s.Comes (.prefetchReadEnd data) (execPrefetchReadEnd data s) := by
  unfold execPrefetchReadEnd
  split
  case h_1 a hflight => exact (State.Effect.journal (.prefetched a data hflight)).comes
  case h_2 => exact s.comes_nothing _

theorem execClosingHeaderWriteEnd_comes (s : State) :
    s.Comes .closingHeaderWriteEnd (execClosingHeaderWriteEnd s) := by
  unfold execClosingHeaderWriteEnd
  split
  case h_1 a hflight => exact (State.Effect.journal (.headerWritten a hflight)).comes
  case h_2 => exact s.comes_nothing _

theorem execMapEntryClearEnd_comes (s : State) :
    s.Comes .mapEntryClearEnd (execMapEntryClearEnd s) := by
  unfold execMapEntryClearEnd
  split
  case h_1 a hflight => exact (State.Effect.journal (.mapCleared a hflight)).comes
  case h_2 => exact s.comes_nothing _

theorem execJournalEngineWriteEnd_comes (s : State) :
    s.Comes .journalEngineWriteEnd (execJournalEngineWriteEnd s) := by
  unfold execJournalEngineWriteEnd
  split
  case h_1 periodEnd a hflight => exact (State.Effect.journal (.closed periodEnd a hflight)).comes
  case h_2 => exact s.comes_nothing _

theorem execJournalErrorReply_comes (s : State) :
    s.Comes .journalErrorReply (execJournalErrorReply s) := by
  unfold execJournalErrorReply
  split
  case h_1 f hflight => exact (State.Effect.journal (.faulted _ _ f hflight rfl rfl)).comes
  case h_2 => exact s.comes_nothing _

theorem execJournalNoReply_comes (s : State) :
    s.Comes .journalNoReply (execJournalNoReply s) := by
  unfold execJournalNoReply
  split
  case h_1 f hflight =>
    split
    · exact s.comes_nothing _
    · exact (State.Effect.journal (.faulted _ _ f hflight rfl rfl)).comes
  case h_2 => exact s.comes_nothing _

theorem execJournalAbandonedWriteError_comes (s : State) (n : Nat) :
    s.Comes (.journalAbandonedWriteError n) (execJournalAbandonedWriteError n s) := by
  unfold execJournalAbandonedWriteError
  split
  case h_1 a ha => exact (State.Effect.journal (.abandonedReported n a ha)).comes
  case h_2 => exact s.comes_nothing _

/-! ## The requests -/

section Requests
variable {s : State} {cell : FetchedCell}

theorem State.complete_effect {k : RequestKind} (h : s.InHand k cell) (code : ResultCode)
    (fields : List Field) (hk : k ≠ .seize := by decide) :
    s.Effect k.command (s.complete code fields) :=
  .completed code fields h (.unchanged k hk)

theorem answerRequest_effect (h : s.InHand .answer cell) :
    s.Effect .answer (answerRequest cell s) := by
  unfold answerRequest
  simp only
  split
  · exact State.complete_effect h _ _
  case isFalse hvalid =>
    split
    · exact State.complete_effect h _ _
    case isFalse hanswered =>
      have hseized : (s.context (handleIndex (cell.operand 16 2))).state = .seized := by
        have hlive := ((s.handleValid_iff rfl).mp (by simpa using hvalid)).1
        cases hstate : (s.context (handleIndex (cell.operand 16 2))).state with
        | free => exact absurd hstate hlive
        | seized => rfl
        | answered => exact absurd hstate hanswered
      exact .completed _ _ h (.answered _ _ hseized)

theorem State.chargeRelease_effect (h : s.InHand .release cell) (r : PendingRelease)
    (hfree : s.holdFree = true) : s.Effect .release (s.chargeRelease r) :=
  .completed _ _ h (.charged r hfree)

theorem State.releaseUncharged_effect (h : s.InHand .release cell) (r : PendingRelease) :
    s.Effect .release (s.releaseUncharged r) := by
  by_cases hfar : r.cause = .farCongestion
  · simp only [State.releaseUncharged, hfar, if_true]
    exact .completed _ _ h (.released r.ctx true)
  · simp only [State.releaseUncharged, if_neg hfar]
    exact .completed _ _ h (.released r.ctx false)

theorem releaseRequest_effect (h : s.InHand .release cell) :
    s.Effect .release (releaseRequest cell s) := by
  unfold releaseRequest
  split
  · exact State.complete_effect h _ _
  · simp only
    split
    · exact State.complete_effect h _ _
    · split
      · split
        case isTrue hfree => exact State.chargeRelease_effect h _ hfree
        case isFalse => exact .chain (.releaseStalled cell _ h)
      · exact State.releaseUncharged_effect h _

theorem queryContextRequest_effect (h : s.InHand .queryContext cell) :
    s.Effect .queryContext (queryContextRequest cell s) := by
  unfold queryContextRequest
  split
  · exact State.complete_effect h _ _
  · exact State.complete_effect h _ _

theorem groupSetRequest_effect (h : s.InHand .groupSet cell) :
    s.Effect .groupSet (groupSetRequest cell s) := by
  unfold groupSetRequest
  split
  · exact State.complete_effect h _ _
  case h_2 q _ =>
    split
    · exact .completed _ _ h (.group q)
    · exact State.complete_effect h _ _

theorem queryGroupRequest_effect (h : s.InHand .queryGroup cell) :
    s.Effect .queryGroup (queryGroupRequest cell s) := by
  unfold queryGroupRequest
  split
  · exact State.complete_effect h _ _
  · exact State.complete_effect h _ _

theorem profileSetRequest_effect (h : s.InHand .profileSet cell) :
    s.Effect .profileSet (profileSetRequest cell s) := by
  unfold profileSetRequest
  split
  case h_1 n l _ _ =>
    simp only
    split
    · exact .completed _ _ h (.profile cell n l)
    · exact State.complete_effect h _ _
  case h_2 => exact State.complete_effect h _ _

theorem agreeSetRequest_effect (h : s.InHand .agreeSet cell) :
    s.Effect .agreeSet (agreeSetRequest cell s) := by
  unfold agreeSetRequest
  split
  · exact State.complete_effect h _ _
  case h_2 r hr =>
    simp only
    split
    · exact State.complete_effect h _ _
    case isFalse hopen =>
      split
      · exact State.complete_effect h _ _
      · exact .completed _ _ h (.agreement cell r hr (Bool.eq_false_iff.mpr hopen))

theorem queryCarrierRequest_effect (h : s.InHand .queryCarrier cell) :
    s.Effect .queryCarrier (queryCarrierRequest cell s) := by
  unfold queryCarrierRequest
  split
  · exact State.complete_effect h _ _
  · exact State.complete_effect h _ _

theorem periodCloseRequest_effect (h : s.InHand .periodClose cell) :
    s.Effect .periodClose (periodCloseRequest cell s) := by
  unfold periodCloseRequest
  split
  case isTrue hready => exact .completed _ _ h (.closed hready)
  case isFalse => exact .chain (.closeStalled cell h)

theorem invalidateRequest_effect (h : s.InHand .invalidate cell) :
    s.Effect .invalidate (invalidateRequest cell s) := by
  unfold invalidateRequest
  simp only
  split
  · exact .completed _ _ h (.linesDropped _)
  · exact State.complete_effect h _ _

theorem clockSetRequest_effect (h : s.InHand .clockSet cell) :
    s.Effect .clockSet (clockSetRequest cell s) := by
  unfold clockSetRequest
  simp only
  split
  · exact State.complete_effect h _ _
  · exact .completed _ _ h (.clockSet _)

theorem bandSetRequest_effect (h : s.InHand .bandSet cell) :
    s.Effect .bandSet (bandSetRequest cell s) := by
  unfold bandSetRequest
  split
  · exact .completed _ _ h (.bandsSet _)
  · exact State.complete_effect h _ _

end Requests

theorem execSeize_comes (s : State) : s.Comes .seize (execSeize s) := by
  obtain ⟨terms, attempts, choices, hwalk, hrun⟩ | ⟨cell, hcell, hrun⟩ | hrun := execSeize_cases s
  · exact hrun ▸ (State.Effect.routed (.walked (.seize terms) attempts choices hwalk)).comes
  · exact hrun ▸ (State.Effect.routed (.seized cell hcell)).comes
  · exact hrun ▸ s.comes_nothing _

theorem execCrankback_comes (s : State) : s.Comes .crankback (execCrankback s) := by
  obtain ⟨i, attempts, choices, hwalk, hrun⟩ | ⟨cell, hcell, hrun⟩ | hrun := execCrankback_cases s
  · exact hrun ▸ (State.Effect.routed (.walked (.crankback i) attempts choices hwalk)).comes
  · exact hrun ▸ (State.Effect.routed (.crankedBack cell hcell)).comes
  · exact hrun ▸ s.comes_nothing _

theorem execStalledCellResume_comes (s : State) :
    s.Comes .stalledCellResume (execStalledCellResume s) := by
  unfold execStalledCellResume
  split
  case isTrue hstalled =>
    split
    case h_1 r _ =>
      split
      case isTrue hfree =>
        exact (State.Effect.releaseResumed r _ hstalled hfree).comes
      case isFalse => exact s.comes_nothing _
    case h_2 =>
      split
      case isTrue hready =>
        exact (State.Effect.closeResumed _ hstalled hready).comes
      case isFalse => exact s.comes_nothing _
    case h_3 => exact s.comes_nothing _
  case isFalse => exact s.comes_nothing _

/-! ## The ends of a fill -/

theorem execFillCompletion_comes (s : State) (data : List Byte) :
    s.Comes (.fillCompletion data) (execFillCompletion data s) := by
  unfold execFillCompletion
  split
  case h_1 => exact s.comes_nothing _
  case h_2 f hfill => exact (State.Effect.routed (.filled f data hfill)).comes

theorem execFillFault_comes (s : State) : s.Comes .fillFault (execFillFault s) := by
  unfold execFillFault
  split
  case h_1 => exact s.comes_nothing _
  case h_2 f hfill => exact (State.Effect.routed (.fillFailed _ _ f hfill (.inl rfl))).comes

theorem execFillNoReply_comes (s : State) : s.Comes .fillNoReply (execFillNoReply s) := by
  unfold execFillNoReply
  split
  case h_1 => exact s.comes_nothing _
  case h_2 f hfill => exact (State.Effect.routed (.fillFailed _ _ f hfill (.inr rfl))).comes

/-! ## Every command -/

/-- Every command answers a next state, one of those it can come to. -/
theorem exec_comes (c : Instr) (s : State) : s.Comes c (exec c s) := by
  cases c with
  | start => exact onRegisterWrite_comes State.start_effect
  | stop => exact onRegisterWrite_comes fun _ => s.stop_effect
  | restart => exact onRegisterWrite_comes .restarted
  | cold => exact onRegisterWrite_comes .cold
  | controlOtherCode _ => exact s.comes_nothing _
  | nudge value =>
    apply onRegisterWrite_comes
    exact .nudged value
  | anchorWrite half value =>
    exact onRegisterWrite_comes fun h => State.writeAnchor_effect h half value
  | attnStatusWrite value =>
    apply onRegisterWrite_comes
    exact .statusWritten value
  | attnEnableWrite value =>
    apply onRegisterWrite_comes
    exact .enableWritten value
  | faultInfoWrite value =>
    apply onRegisterWrite_comes
    exact .captureCleared value
  | registerWriteIgnored _ _ _ => exact s.comes_nothing _
  | resetPin => exact State.Effect.pinReset.comes
  | linkReset kind => exact (State.Effect.linkReset kind).comes
  | tickAdvance => exact execTickAdvance_comes s
  | pollTick => exact execPollTick_comes s
  | pollExpiry => exact execPollExpiry_comes s
  | quietExpiry g => exact execQuietExpiry_comes s g
  | holdOffEnd g => exact execHoldOffEnd_comes s g
  | overdueExpiry i => exact execOverdueExpiry_comes s i
  | anchorReadEnd data => exact execAnchorReadEnd_comes s data
  | anchorEngineWriteEnd => exact execAnchorEngineWriteEnd_comes s
  | cellFetchEnd data => exact execCellFetchEnd_comes s data
  | stalledCellResume => exact execStalledCellResume_comes s
  | resultWriteEnd => exact execResultWriteEnd_comes s
  | statusWriteEnd => exact execStatusWriteEnd_comes s
  | linkReadEnd data => exact execLinkReadEnd_comes s data
  | retireWriteEnd => exact execRetireWriteEnd_comes s
  | chainErrorReply => exact execChainErrorReply_comes s
  | chainNoReply => exact execChainNoReply_comes s
  | chainAbandonedWriteError n => exact execChainAbandonedWriteError_comes s n
  | nop => exact onRequest_comes fun _ h => State.complete_effect h .ok []
  | seize => exact execSeize_comes s
  | crankback => exact execCrankback_comes s
  | answer => exact onRequest_comes fun _ => answerRequest_effect
  | release => exact onRequest_comes fun _ => releaseRequest_effect
  | queryContext => exact onRequest_comes fun _ => queryContextRequest_effect
  | reportChanges => exact onRequest_comes fun _ h => .completed _ _ h .reported
  | engineSet => exact onRequest_comes fun _ h => .completed _ _ h (.limit _)
  | groupSet => exact onRequest_comes fun _ => groupSetRequest_effect
  | queryGroup => exact onRequest_comes fun _ => queryGroupRequest_effect
  | profileSet => exact onRequest_comes fun _ => profileSetRequest_effect
  | agreeSet => exact onRequest_comes fun _ => agreeSetRequest_effect
  | freeze => exact onRequest_comes fun _ h => .completed _ _ h .freeze
  | queryCarrier => exact onRequest_comes fun _ => queryCarrierRequest_effect
  | periodClose => exact onRequest_comes fun _ => periodCloseRequest_effect
  | invalidate => exact onRequest_comes fun _ => invalidateRequest_effect
  | clockSet => exact onRequest_comes fun _ => clockSetRequest_effect
  | bandSet => exact onRequest_comes fun _ => bandSetRequest_effect
  | fillCompletion data => exact execFillCompletion_comes s data
  | fillFault => exact execFillFault_comes s
  | fillNoReply => exact execFillNoReply_comes s
  | openingReadEnd data => exact execOpeningReadEnd_comes s data
  | recordWriteEnd => exact execRecordWriteEnd_comes s
  | recordCountWriteEnd => exact execRecordCountWriteEnd_comes s
  | prefetchReadEnd data => exact execPrefetchReadEnd_comes s data
  | closingHeaderWriteEnd => exact execClosingHeaderWriteEnd_comes s
  | mapEntryClearEnd => exact execMapEntryClearEnd_comes s
  | journalEngineWriteEnd => exact execJournalEngineWriteEnd_comes s
  | journalErrorReply => exact execJournalErrorReply_comes s
  | journalNoReply => exact execJournalNoReply_comes s
  | journalAbandonedWriteError n => exact execJournalAbandonedWriteError_comes s n
  | resetRelease source => exact execResetRelease_comes s source

/-- What a command answers is one of the cases. -/
theorem exec_effect {c : Instr} {s t : State} (h : exec c s = .next t) : s.Effect c t := by
  obtain ⟨u, hu, heffect⟩ := exec_comes c s
  rw [hu] at h
  cases h
  exact heffect

/-- An invariant that no command breaks, and that the queue does not decide, is kept by every step. -/
theorem step_keeps {P : State → Prop}
    (hqueue : ∀ (s : State) (q : List Instr), P s → P { s with pending := q })
    (hexec : ∀ (c : Instr) (s t : State), s.Effect c t → P s → P t) (s t : State) (hs : P s)
    (hstep : step s = .next t) : P t := by
  unfold step at hstep
  split at hstep
  case h_1 =>
    cases hstep
    exact hs
  case h_2 c rest _ => exact hexec c _ t (exec_effect hstep) (hqueue s rest hs)

end Sys2Proof.Machine
end

section
/-! SUPPORT. What the cases of a command leave unchanged, block by block, and the settlements of O1, O2
and O3. -/

namespace Sys2Proof.Machine

/-! ## The poll counter -/

/-- The poll counter stands or is 0, and it is 0 where the conditions of R29 have just ceased. -/
structure State.PollKept (s t : State) : Prop where
  anchor : t.cc.anchor = s.cc.anchor
  counter : t.tb.pollCounter = s.tb.pollCounter ∨ t.tb.pollCounter = 0
  stopped : t.pollCounting = false → t.tb.pollCounter = 0 ∨
    s.pollCounting = false ∧ t.tb.pollCounter = s.tb.pollCounter

theorem State.PollKept.trans {s t u : State} (h : s.PollKept t) (k : t.PollKept u) :
    s.PollKept u where
  anchor := k.anchor.trans h.anchor
  counter := by
    obtain hu | hu := k.counter
    · rw [hu]
      exact h.counter
    · exact .inr hu
  stopped hstop := by
    obtain hu | ⟨ht, hu⟩ := k.stopped hstop
    · exact .inl hu
    · rw [hu]
      exact h.stopped ht

/-- Where the states of both writers, the anchor and the lines of the reset stand, so does the counting.
-/
theorem State.pollCounting_congr {s t : State} (hchain : t.cc.state = s.cc.state)
    (hanchor : t.cc.anchor = s.cc.anchor) (hjournal : t.jw.state = s.jw.state)
    (hresets : t.resets = s.resets) : t.pollCounting = s.pollCounting := by
  simp only [State.pollCounting, State.inReset, hchain, hanchor, hjournal, hresets]

theorem State.pollKept_of_counter {s t : State} (hchain : t.cc.state = s.cc.state)
    (hanchor : t.cc.anchor = s.cc.anchor) (hjournal : t.jw.state = s.jw.state)
    (hresets : t.resets = s.resets) (hcounter : t.tb.pollCounter = s.tb.pollCounter) :
    s.PollKept t where
  anchor := hanchor
  counter := .inl hcounter
  stopped hstop :=
    .inr ⟨State.pollCounting_congr hchain hanchor hjournal hresets ▸ hstop, hcounter⟩

theorem State.pollKept_of_zero {s t : State} (hanchor : t.cc.anchor = s.cc.anchor)
    (hzero : t.tb.pollCounter = 0) : s.PollKept t :=
  ⟨hanchor, .inr hzero, fun _ => .inl hzero⟩

theorem State.PollKept.refl (s : State) : s.PollKept s :=
  State.pollKept_of_counter rfl rfl rfl rfl rfl

/-- Settling after a change of the states keeps the poll counter sound. -/
theorem State.pollKept_settlePoll {s u : State} (hanchor : u.cc.anchor = s.cc.anchor)
    (hcounter : u.tb.pollCounter = s.tb.pollCounter) : s.PollKept u.settlePoll := by
  by_cases hcounting : u.pollCounting = true
  · have hsame : u.settlePoll = u := if_pos hcounting
    rw [hsame]
    exact ⟨hanchor, .inl hcounter, fun hstop => by simp [hcounting] at hstop⟩
  · exact State.pollKept_of_zero (by simpa using hanchor) (by simp [State.settlePoll_eq, hcounting])

theorem State.enterChain_pollKept (s : State) (x : ChainState) : s.PollKept (s.enterChain x) :=
  State.pollKept_settlePoll rfl rfl

theorem State.enterJournal_pollKept (s : State) (x : JournalState) :
    s.PollKept (s.enterJournal x) :=
  State.pollKept_settlePoll rfl rfl

theorem State.complete_pollKept (s : State) (code : ResultCode) (fields : List Field) :
    s.PollKept (s.complete code fields) := by
  rw [State.complete_eq]
  exact State.pollKept_settlePoll rfl rfl

theorem State.readLink_pollKept (s : State) : s.PollKept s.readLink := by
  rw [State.readLink_eq]
  exact State.pollKept_settlePoll rfl rfl

theorem State.writeRetireMark_pollKept (s : State) (op : ChainOp) (mark : Addr) :
    s.PollKept (s.writeRetireMark op mark) := by
  rw [State.writeRetireMark_eq]
  exact State.pollKept_settlePoll rfl rfl

theorem State.openPage_pollKept (s : State) (reread : Bool) : s.PollKept (s.openPage reread) := by
  rw [State.openPage_eq]
  exact State.pollKept_settlePoll rfl rfl

theorem State.journalAdvance_pollKept (s : State) : s.PollKept s.journalAdvance :=
  State.pollKept_of_counter (by simp) (by simp) (by simp) (by simp) (by simp)

/-! ## The events of CC -/

/-- Nothing has changed but CC apart from its anchor, the settled poll counter and the attention. -/
structure State.ChainFrame (s t : State) : Prop where
  poll : s.PollKept t
  now : t.tb.now = s.tb.now
  timeOfWeek : t.tb.timeOfWeek = s.tb.timeOfWeek
  bands : t.tb.bands = s.tb.bands
  tau : t.tau = s.tau
  groups : t.groups = s.groups
  profiles : t.profiles = s.profiles
  ct : t.ct = s.ct
  agr : t.agr = s.agr
  ru : t.ru = s.ru
  jw : t.jw = s.jw
  resets : t.resets = s.resets
  pending : t.pending = s.pending

section
variable (s : State) (x : ChainController) (a : AttentionLogic)

/-- A change of CC and of the attention in which the chain stays in its state. -/
theorem State.chainFrame_of_state (hstate : x.state = s.cc.state) (hanchor : x.anchor = s.cc.anchor) :
    s.ChainFrame { s with cc := x, afl := a } where
  poll := State.pollKept_of_counter hstate hanchor rfl rfl rfl
  now := rfl
  timeOfWeek := rfl
  bands := rfl
  tau := rfl
  groups := rfl
  profiles := rfl
  ct := rfl
  agr := rfl
  ru := rfl
  jw := rfl
  resets := rfl
  pending := rfl

/-- A change of CC and of the attention in which the chain enters a state. -/
theorem State.chainFrame_of_settlePoll (hanchor : x.anchor = s.cc.anchor) :
    s.ChainFrame (State.settlePoll { s with cc := x, afl := a }) where
  poll := State.pollKept_settlePoll hanchor rfl
  now := by simp
  timeOfWeek := by simp
  bands := by simp
  tau := by simp
  groups := by simp
  profiles := by simp
  ct := by simp
  agr := by simp
  ru := by simp
  jw := by simp
  resets := by simp
  pending := by simp

end

theorem State.writeAnchor_chainFrame (s : State) (half : AnchorHalf) (value : Word32) :
    s.ChainFrame (s.writeAnchor half value) := by
  unfold State.writeAnchor
  split
  · cases half <;> exact s.chainFrame_of_state _ s.afl rfl rfl
  · exact s.chainFrame_of_state s.cc s.afl rfl rfl

/-- CC may change between two settlings of the poll counter as long as its state and anchor stand. -/
theorem State.settlePoll_settlePoll_cc {u : State} {x : ChainController}
    (hstate : x.state = u.cc.state) (hanchor : x.anchor = u.cc.anchor) :
    State.settlePoll { u.settlePoll with cc := x } = State.settlePoll { u with cc := x } := by
  have hcounting (b : Timebase) : State.pollCounting { u with cc := x, tb := b } = u.pollCounting :=
    State.pollCounting_congr hstate hanchor rfl rfl
  have hagain := hcounting u.settlePoll.tb
  rw [State.settlePoll_eq u] at hagain ⊢
  rw [State.settlePoll_eq, State.settlePoll_eq { u with cc := x }]
  simp only [hagain, hcounting]
  cases u.pollCounting <;> rfl

/-- A dispatched cell, of a kind of the catalogue or not, leaves the chain in WORKING. -/
theorem State.dispatchCell_eq (s : State) (c : FetchedCell) :
    s.dispatchCell c = State.settlePoll { s with
      cc := { s.cc with
        state := .working, cell := some c,
        work := if (requestKind c.kind).isSome then .dispatched else .completing,
        flight := if (requestKind c.kind).isSome then none
          else some ⟨.resultWrite .badKind, ⟨s.cc.held, 64, .write (layout 64 64 [])⟩⟩ } } := by
  unfold State.dispatchCell
  simp only
  split
  · rfl
  · rw [State.complete_eq, State.enterChain, State.settlePoll_settlePoll_cc (by simp) (by simp)]
    simp only [State.settlePoll_cc]

theorem State.completedCell_chainFrame {s u : State} (hu : u = if s.notifies then s.raise .cell else s) :
    ∃ a, u = { s with afl := a } := by
  subst hu
  split
  · exact ⟨_, rfl⟩
  · exact ⟨s.afl, rfl⟩

theorem State.ChainEffect.frame {s t : State} {c : Instr} (h : s.ChainEffect c t) :
    s.ChainFrame t := by
  cases h with
  | anchorAsked =>
    rw [State.readAnchor_eq]
    exact s.chainFrame_of_settlePoll _ s.afl rfl
  | stopNoted => exact s.chainFrame_of_state _ s.afl rfl rfl
  | stopped => exact s.chainFrame_of_settlePoll _ s.afl rfl
  | faultLeft => exact s.chainFrame_of_settlePoll _ s.afl rfl
  | anchorWritten half value => exact s.writeAnchor_chainFrame half value
  | headTaken =>
    rw [State.fetchCell_eq]
    exact s.chainFrame_of_settlePoll _ s.afl rfl
  | dispatched =>
    rw [State.dispatchCell_eq]
    exact s.chainFrame_of_settlePoll _ s.afl rfl
  | resultWritten => exact s.chainFrame_of_state _ s.afl rfl rfl
  | completedToIdle _ u _ hu =>
    obtain ⟨a, rfl⟩ := State.completedCell_chainFrame hu
    exact s.chainFrame_of_settlePoll _ a rfl
  | completedToLink _ u _ hu =>
    obtain ⟨a, rfl⟩ := State.completedCell_chainFrame hu
    rw [State.readLink_eq]
    exact s.chainFrame_of_settlePoll _ a rfl
  | linkStopped => exact s.chainFrame_of_settlePoll _ s.afl rfl
  | linkReread =>
    rw [State.readLink_eq]
    exact s.chainFrame_of_settlePoll _ s.afl rfl
  | linkAwaited => exact s.chainFrame_of_settlePoll _ s.afl rfl
  | retired =>
    rw [State.retire, State.writeRetireMark_eq]
    exact s.chainFrame_of_settlePoll _ s.afl rfl
  | nextTaken =>
    rw [State.fetchCell_eq]
    exact s.chainFrame_of_settlePoll _ s.afl rfl
  | faulted => exact s.chainFrame_of_settlePoll _ _ rfl
  | abandonedReported => exact s.chainFrame_of_state _ _ rfl rfl
  | releaseStalled => exact s.chainFrame_of_settlePoll _ s.afl rfl
  | closeStalled => exact s.chainFrame_of_settlePoll _ s.afl rfl

/-! ## The events of JW -/

/-- Nothing has changed but JW, the settled poll counter and the attention. -/
structure State.JournalFrame (s t : State) : Prop where
  poll : s.PollKept t
  cc : t.cc = s.cc
  now : t.tb.now = s.tb.now
  timeOfWeek : t.tb.timeOfWeek = s.tb.timeOfWeek
  bands : t.tb.bands = s.tb.bands
  tau : t.tau = s.tau
  groups : t.groups = s.groups
  profiles : t.profiles = s.profiles
  ct : t.ct = s.ct
  agr : t.agr = s.agr
  ru : t.ru = s.ru
  resets : t.resets = s.resets
  pending : t.pending = s.pending

theorem State.JournalFrame.trans {s t u : State} (h : s.JournalFrame t) (k : t.JournalFrame u) :
    s.JournalFrame u :=
  ⟨h.poll.trans k.poll, k.cc.trans h.cc, k.now.trans h.now, k.timeOfWeek.trans h.timeOfWeek,
    k.bands.trans h.bands, k.tau.trans h.tau, k.groups.trans h.groups, k.profiles.trans h.profiles,
    k.ct.trans h.ct, k.agr.trans h.agr, k.ru.trans h.ru, k.resets.trans h.resets,
    k.pending.trans h.pending⟩

section
variable (s : State) (j : JournalWriter) (a : AttentionLogic)

/-- A change of JW and of the attention in which JW stays in its state. -/
theorem State.journalFrame_of_state (hstate : j.state = s.jw.state) :
    s.JournalFrame { s with jw := j, afl := a } where
  poll := State.pollKept_of_counter rfl rfl hstate rfl rfl
  cc := rfl
  now := rfl
  timeOfWeek := rfl
  bands := rfl
  tau := rfl
  groups := rfl
  profiles := rfl
  ct := rfl
  agr := rfl
  ru := rfl
  resets := rfl
  pending := rfl

/-- A change of JW and of the attention in which JW enters a state. -/
theorem State.journalFrame_of_settlePoll :
    s.JournalFrame (State.settlePoll { s with jw := j, afl := a }) where
  poll := State.pollKept_settlePoll rfl rfl
  cc := by simp
  now := by simp
  timeOfWeek := by simp
  bands := by simp
  tau := by simp
  groups := by simp
  profiles := by simp
  ct := by simp
  agr := by simp
  ru := by simp
  resets := by simp
  pending := by simp

end

/-- A change of JW and of the attention before an event of JW. -/
theorem State.JournalFrame.after {s t : State} {j : JournalWriter} {a : AttentionLogic}
    (h : State.JournalFrame { s with jw := j, afl := a } t) (hstate : j.state = s.jw.state) :
    s.JournalFrame t := (s.journalFrame_of_state j a hstate).trans h

theorem State.journalAdvance_journalFrame (s : State) : s.JournalFrame s.journalAdvance := by
  rw [State.journalAdvance_eq]
  exact s.journalFrame_of_state _ s.afl rfl

theorem State.openPage_journalFrame (s : State) (reread : Bool) :
    s.JournalFrame (s.openPage reread) := by
  rw [State.openPage_eq]
  exact s.journalFrame_of_settlePoll _ s.afl

theorem State.enterPage_journalFrame (s : State) (page : Addr) :
    s.JournalFrame (s.enterPage page) :=
  (s.journalFrame_of_settlePoll _ s.afl).trans (State.journalAdvance_journalFrame _)

theorem State.waitForPage_journalFrame (s : State) (reread : Bool) :
    s.JournalFrame (s.waitForPage reread) := by
  have hentered : s.JournalFrame
      (State.enterJournal .waitingPage { s with jw := { s.jw with flight := none } }) :=
    s.journalFrame_of_settlePoll _ s.afl
  have hraised (u : State) (h : s.JournalFrame u) :
      s.JournalFrame (if reread then u else u.raise .jstall) := by
    split
    · exact h
    · exact h.trans (u.journalFrame_of_state u.jw _ rfl)
  have hopened (u : State) (h : s.JournalFrame u) : s.JournalFrame (if u.jw.nudgeSeen then
      State.openPage true { u with jw := { u.jw with nudgeSeen := false } } else u) := by
    split
    · exact h.trans ((State.openPage_journalFrame _ true).after rfl)
    · exact h
  exact hopened _ (hraised _ hentered)

theorem State.startJournal_journalFrame (s : State) : s.JournalFrame s.startJournal := by
  have hsame := s.journalFrame_of_state s.jw s.afl rfl
  unfold State.startJournal
  split
  case h_1 => exact (State.openPage_journalFrame _ false).after rfl
  case h_2 => exact (State.openPage_journalFrame _ false).after rfl
  case h_3 => exact hsame
  case h_4 => exact hsame
  case h_5 => exact hsame

theorem State.nudgeJournal_journalFrame (s : State) : s.JournalFrame s.nudgeJournal := by
  have hsame := s.journalFrame_of_state s.jw s.afl rfl
  unfold State.nudgeJournal
  split
  case h_1 => exact s.openPage_journalFrame true
  case h_2 => exact s.journalFrame_of_state _ s.afl rfl
  case h_3 => exact s.journalFrame_of_state _ s.afl rfl
  case h_4 => exact hsame
  case h_5 => exact hsame

theorem State.recordCounted_journalFrame (s : State) (k : RecordKind) :
    s.JournalFrame (s.recordCounted k) := by
  cases k <;> exact s.journalFrame_of_state _ s.afl rfl

theorem State.issuePrefetch_journalFrame (s : State) : s.JournalFrame s.issuePrefetch :=
  s.journalFrame_of_state _ s.afl rfl

theorem State.afterCount_journalFrame (s : State) (k : RecordKind) :
    s.JournalFrame (s.afterCount k) := by
  unfold State.afterCount
  split
  case h_1 =>
    split
    · exact s.issuePrefetch_journalFrame
    · exact s.journalAdvance_journalFrame
  case h_2 =>
    split
    · exact (State.journalAdvance_journalFrame _).after rfl
    · simp only
      split
      · exact (State.issuePrefetch_journalFrame _).after rfl
      · exact (State.journalAdvance_journalFrame _).after rfl

theorem State.finishClose_journalFrame (s : State) (periodEnd : Bool) :
    s.JournalFrame (s.finishClose periodEnd) := by
  cases periodEnd <;> exact s.journalFrame_of_state _ _ rfl

theorem State.finishCloseOf_journalFrame (s : State) (f : Option JournalFlight) :
    s.JournalFrame (s.finishCloseOf f) := by
  unfold State.finishCloseOf
  split
  case h_1 => exact s.finishClose_journalFrame _
  case h_2 => exact s.journalFrame_of_state s.jw s.afl rfl

theorem State.openAfterClose_journalFrame (s : State) : s.JournalFrame s.openAfterClose := by
  unfold State.openAfterClose
  simp only
  split
  · exact (State.enterPage_journalFrame _ _).after rfl
  · exact (State.openPage_journalFrame _ _).after rfl

theorem State.journalFault_journalFrame (s : State) (kind : FaultKind) (f : JournalFlight) :
    s.JournalFrame (s.journalFault kind f) :=
  (s.journalFrame_of_state s.jw _ rfl).trans
    ((State.finishCloseOf_journalFrame (s.offerFault kind .journal f.access.base) (some f)).trans
      (State.journalFrame_of_settlePoll _ _ _))

theorem State.restartJournal_journalFrame (s : State) : s.JournalFrame s.restartJournal :=
  (s.finishCloseOf_journalFrame s.jw.flight).trans (State.journalFrame_of_settlePoll _ _ _)

theorem State.reopenJournal_journalFrame (s : State) : s.JournalFrame s.reopenJournal := by
  rw [State.reopenJournal_eq]
  exact s.restartJournal_journalFrame.trans ((State.openPage_journalFrame _ false).after rfl)

theorem State.JournalEffect.frame {s t : State} {c : Instr} (h : s.JournalEffect c t) :
    s.JournalFrame t := by
  cases h with
  | pageOpened => exact s.enterPage_journalFrame _
  | pageAwaited => exact s.waitForPage_journalFrame _
  | recordWritten => exact s.journalFrame_of_state _ s.afl rfl
  | countWritten k =>
    exact ((State.recordCounted_journalFrame _ k).trans (State.afterCount_journalFrame _ k)).after rfl
  | prefetched => exact (State.journalAdvance_journalFrame _).after rfl
  | headerWritten => exact s.journalFrame_of_state _ s.afl rfl
  | mapCleared => exact s.journalFrame_of_state _ s.afl rfl
  | closed periodEnd =>
    exact (s.finishClose_journalFrame periodEnd).trans (State.openAfterClose_journalFrame _)
  | faulted _ kind f => exact s.journalFault_journalFrame kind f
  | abandonedReported => exact s.journalFrame_of_state _ _ rfl

/-! ## The requests -/

/-- What the events of requests keep, whatever the kind. -/
structure State.RequestFrame (s u : State) : Prop where
  cc : u.cc = s.cc
  now : u.tb.now = s.tb.now
  pollCounter : u.tb.pollCounter = s.tb.pollCounter
  fill : u.tau.fill = s.tau.fill
  journal : u.jw.state = s.jw.state
  resets : u.resets = s.resets
  pending : u.pending = s.pending

/-- Clearing change flags touches groups and contexts alone. -/
theorem State.clearChanges_eq (taken : List Change) (s : State) : taken.foldl State.clearChange s =
    { s with
      groups := (taken.foldl State.clearChange s).groups
      ct := { s.ct with contexts := (taken.foldl State.clearChange s).ct.contexts } } := by
  induction taken generalizing s with
  | nil => rfl
  | cons x rest ih =>
    rw [List.foldl_cons, ih (s.clearChange x)]
    cases x <;> rfl

theorem State.RequestChange.frame {s u : State} {k : RequestKind} (h : s.RequestChange k u) :
    s.RequestFrame u := by
  cases h with
  | unchanged => exact ⟨rfl, rfl, rfl, rfl, rfl, rfl, rfl⟩
  | clockSet => exact ⟨rfl, rfl, rfl, rfl, rfl, rfl, rfl⟩
  | bandsSet => exact ⟨rfl, rfl, rfl, rfl, rfl, rfl, rfl⟩
  | linesDropped => exact ⟨rfl, rfl, rfl, rfl, rfl, rfl, rfl⟩
  | group => exact ⟨rfl, rfl, rfl, rfl, rfl, rfl, rfl⟩
  | profile => exact ⟨rfl, rfl, rfl, rfl, rfl, rfl, rfl⟩
  | agreement => constructor <;> simp
  | freeze => exact ⟨rfl, rfl, rfl, rfl, rfl, rfl, rfl⟩
  | limit => exact ⟨rfl, rfl, rfl, rfl, rfl, rfl, rfl⟩
  | reported =>
    rw [State.clearChanges_eq]
    exact ⟨rfl, rfl, rfl, rfl, rfl, rfl, rfl⟩
  | answered => exact ⟨rfl, rfl, rfl, rfl, rfl, rfl, rfl⟩
  | released i far => cases far <;> constructor <;> simp
  | charged => constructor <;> simp [State.chargeEvent, State.placeHold]
  | closed => constructor <;> simp [State.closeEvent, State.placeHold]

theorem State.RequestChange.pollKept {s u : State} {k : RequestKind} (h : s.RequestChange k u) :
    s.PollKept u :=
  State.pollKept_of_counter (by rw [h.frame.cc]) (by rw [h.frame.cc]) h.frame.journal h.frame.resets
    h.frame.pollCounter

/-! ## The events of SEIZE and CRANKBACK -/

theorem State.Considered.pollKept {s t : State} (h : s.Considered t) : s.PollKept t := by
  refine State.pollKept_of_counter ?_ ?_ ?_ ?_ ?_ <;> rw [h.frame]

theorem State.startFill_pollKept (s : State) (tag : Tag) (r : Requester) :
    s.PollKept (s.startFill tag r) := State.pollKept_of_counter rfl rfl rfl rfl rfl

theorem State.walkOn_pollKept (s : State) (p : WalkFor) (attempts : List Attempt)
    (choices : List Choice) : s.PollKept (s.walkOn p attempts choices) :=
  State.pollKept_of_counter rfl rfl rfl rfl rfl

theorem State.endCrankback_pollKept (s : State) (i : CtxId) (code : ResultCode)
    (attempts : List Attempt) : s.PollKept (s.endCrankback i code attempts) :=
  (State.pollKept_of_counter (by simp) (by simp) (by simp) (by simp) (by simp)).trans
    ((s.freeContext i).complete_pollKept _ _)

theorem State.admitChoice_pollKept (s : State) (p : WalkFor) (c : Choice) (line : TariffLine)
    (quote : Nat) (tier : Tier) (attempts : List Attempt) :
    s.PollKept (s.admitChoice p c line quote tier attempts) := by
  cases p with
  | seize terms =>
    unfold State.admitChoice State.admitSeizure
    simp only
    split
    · exact s.complete_pollKept _ _
    · refine State.PollKept.trans ?_ (State.complete_pollKept _ _ _)
      exact State.pollKept_of_counter rfl rfl rfl rfl rfl
  | crankback i =>
    exact (State.pollKept_of_counter (by simp) (by simp) (by simp) (by simp) (by simp)).trans
      ((s.moveContext i c line quote tier).complete_pollKept _ _)

theorem State.WalkNext.pollKept {p : WalkFor} {s t : State} (h : State.WalkNext p s t) :
    s.PollKept t := by
  cases h with
  | exhausted attempts =>
    cases p with
    | seize => exact s.complete_pollKept _ _
    | crankback i => exact s.endCrankback_pollKept i _ _
  | goesOn attempts choices h => exact h.pollKept.trans (State.walkOn_pollKept _ _ _ _)
  | waits => exact s.startFill_pollKept _ _
  | admitted c line quote tier attempts h =>
    exact h.pollKept.trans (State.admitChoice_pollKept _ _ _ _ _ _ _)

theorem State.SeizeNext.pollKept {s t : State} (h : s.SeizeNext t) : s.PollKept t := by
  cases h with
  | refused => exact s.complete_pollKept _ _
  | waits => exact s.startFill_pollKept _ _
  | walks => exact s.walkOn_pollKept _ _ _

theorem State.CrankCellNext.pollKept {s t : State} (h : s.CrankCellNext t) : s.PollKept t := by
  have hpressed (g : GroupId) : s.PollKept (s.pressure g) :=
    (State.Considered.refl.pressure g).pollKept
  cases h with
  | refused => exact s.complete_pollKept _ _
  | limit i => exact (hpressed _).trans (State.endCrankback_pollKept _ _ _ _)
  | walks i _ _ h =>
    cases h with
    | waits => exact (hpressed _).trans (State.startFill_pollKept _ _ _)
    | walks => exact (hpressed _).trans (State.walkOn_pollKept _ _ _ _)

theorem Requester.Next.pollKept {r : Requester} {s t : State} (h : r.Next s t) : s.PollKept t := by
  cases h with
  | seize _ h => exact h.pollKept
  | walk _ _ h => exact h.pollKept
  | freed i => exact s.endCrankback_pollKept i _ _

/-- Nothing has changed but CC apart from its anchor, the line cache, the settled poll counter, the
groups, the contexts and the attention. -/
structure State.CallFrame (s t : State) : Prop where
  poll : s.PollKept t
  now : t.tb.now = s.tb.now
  timeOfWeek : t.tb.timeOfWeek = s.tb.timeOfWeek
  bands : t.tb.bands = s.tb.bands
  profiles : t.profiles = s.profiles
  agr : t.agr = s.agr
  ru : t.ru = s.ru
  jw : t.jw = s.jw
  resets : t.resets = s.resets
  pending : t.pending = s.pending

/-- A change of the line cache or of the attention before an event of a call. -/
theorem State.RouteFrame.callFrame {s t : State} (x : ChainController) (y : TableAccess)
    (a : AttentionLogic) (hx : x.state = s.cc.state) (hanchor : x.anchor = s.cc.anchor)
    (h : State.RouteFrame { s with cc := x, tau := y, afl := a } t)
    (hpoll : State.PollKept { s with cc := x, tau := y, afl := a } t) : s.CallFrame t where
  poll := by
    refine State.PollKept.trans ?_ hpoll
    exact State.pollKept_of_counter hx hanchor rfl rfl rfl
  now := h.now
  timeOfWeek := h.timeOfWeek
  bands := h.bands
  profiles := h.profiles
  agr := h.agr
  ru := h.ru
  jw := h.jw
  resets := h.resets
  pending := h.pending

theorem State.RouteEffect.frame {s t : State} {c : Instr} (h : s.RouteEffect c t) :
    s.CallFrame t := by
  cases h with
  | seized cell =>
    have hnext := seizeFirstEvent_next cell s
    exact hnext.routeFrame.callFrame s.dropOperands.cc s.tau s.afl rfl rfl hnext.pollKept
  | crankedBack cell =>
    have hnext := crankbackCell_next cell s
    exact hnext.routeFrame.callFrame s.cc s.tau s.afl rfl rfl hnext.pollKept
  | walked p attempts choices =>
    have hnext := s.walkEvent_next p attempts choices
    exact hnext.routeFrame.callFrame s.cc s.tau s.afl rfl rfl hnext.pollKept
  | filled f data =>
    have hnext := f.requester.onLine_next (readBytes f.tag.kind.bytes data)
      { s with tau := ⟨installLine ⟨f.tag, readBytes f.tag.kind.bytes data⟩ s.tau.lines, none⟩ }
    exact hnext.routeFrame.callFrame s.cc _ s.afl rfl rfl hnext.pollKept
  | fillFailed _ kind f =>
    have hnext := f.requester.onFault_next ((s.offerFault kind .table f.address).abandonFill)
    exact hnext.routeFrame.callFrame s.cc _ _ rfl rfl hnext.pollKept

/-- Outside the end of a fill the held lines stand as well. -/
theorem State.RouteEffect.lines {s t : State} {c : Instr} (h : s.RouteEffect c t)
    (hc : ∀ data, c ≠ .fillCompletion data) : t.tau.lines = s.tau.lines := by
  cases h with
  | seized cell => exact (seizeFirstEvent_routeFrame cell s).lines
  | crankedBack cell => exact (crankbackCell_next cell s).routeFrame.lines
  | walked p attempts choices => exact (s.walkEvent_next p attempts choices).routeFrame.lines
  | filled f data => exact absurd rfl (hc data)
  | fillFailed _ kind f => exact (f.requester.onFault_next _).routeFrame.lines

end Sys2Proof.Machine
end

section
/-! SUPPORT. Which commands reach which block, and the settlements of O1, O2, O3 and O56. -/

namespace Sys2Proof.Machine

/-! ## The blocks that a request's event reaches -/

section RequestChange
variable {s u : State} {k : RequestKind}

theorem State.RequestChange.profiles (h : s.RequestChange k u) (hk : k.command ≠ .profileSet) :
    u.profiles = s.profiles := by
  cases h with
  | profile => exact absurd rfl hk
  | reported => rw [State.clearChanges_eq]
  | released _ far => cases far <;> simp
  | charged => simp
  | closed => simp
  | _ => simp

theorem State.RequestChange.ru (h : s.RequestChange k u)
    (hk : k.command ∉ [.release, .stalledCellResume, .periodClose]) : u.ru = s.ru := by
  cases h with
  | reported => rw [State.clearChanges_eq]
  | released => simp [RequestKind.command] at hk
  | charged => simp [RequestKind.command] at hk
  | closed => simp [RequestKind.command] at hk
  | _ => simp

theorem State.RequestChange.agr (h : s.RequestChange k u)
    (hk : k.command ∉ [.agreeSet, .freeze, .periodClose, .stalledCellResume]) : u.agr = s.agr := by
  cases h with
  | agreement => simp [RequestKind.command] at hk
  | freeze => simp [RequestKind.command] at hk
  | closed => simp [RequestKind.command] at hk
  | reported => rw [State.clearChanges_eq]
  | released _ far => cases far <;> simp
  | _ => simp

theorem State.RequestChange.timeOfWeek (h : s.RequestChange k u)
    (hk : k.command ∉ [.tickAdvance, .clockSet]) : u.tb.timeOfWeek = s.tb.timeOfWeek := by
  cases h with
  | clockSet => simp [RequestKind.command] at hk
  | reported => rw [State.clearChanges_eq]
  | released _ far => cases far <;> simp
  | _ => simp

theorem State.RequestChange.bands (h : s.RequestChange k u) (hk : k.command ≠ .bandSet) :
    u.tb.bands = s.tb.bands := by
  cases h with
  | bandsSet => exact absurd rfl hk
  | reported => rw [State.clearChanges_eq]
  | released _ far => cases far <;> simp
  | _ => simp

theorem State.RequestChange.lines (h : s.RequestChange k u)
    (hk : k.command ∉ [.restart, .invalidate, .agreeSet]) : u.tau.lines = s.tau.lines := by
  cases h with
  | linesDropped => simp [RequestKind.command] at hk
  | agreement => simp [RequestKind.command] at hk
  | reported => rw [State.clearChanges_eq]
  | released _ far => cases far <;> simp
  | _ => simp

theorem State.RequestChange.ct (h : s.RequestChange k u)
    (hk : k.command ∉ [.seize, .crankback, .answer, .release, .reportChanges, .engineSet,
      .stalledCellResume, .fillFault, .fillNoReply, .tickAdvance]) : u.ct = s.ct := by
  cases h with
  | limit => simp [RequestKind.command] at hk
  | reported => simp [RequestKind.command] at hk
  | answered => simp [RequestKind.command] at hk
  | released => simp [RequestKind.command] at hk
  | charged => simp [RequestKind.command] at hk
  | _ => simp

theorem State.RequestChange.groups (h : s.RequestChange k u)
    (hk : k.command ∉ [.seize, .crankback, .release, .reportChanges, .groupSet, .stalledCellResume,
      .fillFault, .fillNoReply, .tickAdvance]) : u.groups = s.groups := by
  cases h with
  | group => simp [RequestKind.command] at hk
  | reported => simp [RequestKind.command] at hk
  | released => simp [RequestKind.command] at hk
  | charged => simp [RequestKind.command] at hk
  | answered => rfl
  | _ => simp

theorem State.RequestChange.jw (h : s.RequestChange k u) (hk : (reach k.command).journal = false) :
    u.jw = s.jw := by
  cases h with
  | charged => cases hk
  | closed => cases hk
  | reported => rw [State.clearChanges_eq]
  | released _ far => cases far <;> simp
  | _ => simp

theorem State.RequestChange.afl (h : s.RequestChange k u)
    (hk : (reach k.command).attention = false) : u.afl = s.afl := by
  cases h with
  | released => cases hk
  | reported => rw [State.clearChanges_eq]
  | _ => simp

end RequestChange

/-! ## Reach -/

theorem RequestKind.reach_chain (k : RequestKind) : (reach k.command).chain = true := by
  cases k <;> rfl

theorem State.ChainEffect.reach_chain {s t : State} {c : Instr} (h : s.ChainEffect c t) :
    (reach c).chain = true := by
  cases h with
  | faulted _ _ _ _ hchain => exact hchain
  | _ => rfl

theorem State.ChainEffect.afl {s t : State} {c : Instr} (h : s.ChainEffect c t)
    (hc : (reach c).attention = false) : t.afl = s.afl := by
  cases h with
  | faulted _ _ _ _ _ hattention => rw [hattention] at hc; cases hc
  | dispatched => cases hc
  | completedToIdle => cases hc
  | completedToLink => cases hc
  | abandonedReported => cases hc
  | _ => simp

theorem State.JournalEffect.reach_journal {s t : State} {c : Instr} (h : s.JournalEffect c t) :
    (reach c).journal = true := by
  cases h with
  | faulted _ _ _ _ hjournal => exact hjournal
  | _ => rfl

theorem State.JournalEffect.afl {s t : State} {c : Instr} (h : s.JournalEffect c t)
    (hc : (reach c).attention = false) : t.afl = s.afl := by
  cases h with
  | pageAwaited => cases hc
  | closed => cases hc
  | faulted _ _ _ _ _ hattention => rw [hattention] at hc; cases hc
  | abandonedReported => cases hc
  | _ => simp

theorem State.RouteEffect.reach_eq {s t : State} {c : Instr} (h : s.RouteEffect c t) :
    reach c = ⟨true, true, false, true⟩ := by
  cases h with
  | walked p => cases p <;> rfl
  | fillFailed _ _ _ _ hc => obtain rfl | rfl := hc <;> rfl
  | _ => rfl

/-! ## The blocks that a command reaches -/

section Effect
variable {s t : State} {c : Instr}

theorem State.Effect.profiles (h : s.Effect c t) (hcold : coldResets c = false)
    (hc : c ≠ .profileSet) : t.profiles = s.profiles := by
  cases h with
  | chain h => exact h.frame.profiles
  | journal h => exact h.frame.profiles
  | routed h => exact h.frame.profiles
  | completed _ _ _ h => simpa using h.profiles hc
  | cold => cases hcold
  | pinReset => cases hcold
  | linkReset => cases hcold
  | _ => simp

theorem State.Effect.ru (h : s.Effect c t) (hcold : coldResets c = false)
    (hc : c ∉ [.release, .stalledCellResume, .periodClose]) : t.ru = s.ru := by
  cases h with
  | chain h => exact h.frame.ru
  | journal h => exact h.frame.ru
  | routed h => exact h.frame.ru
  | completed _ _ _ h => simpa using h.ru hc
  | releaseResumed => simp at hc
  | closeResumed => simp at hc
  | cold => cases hcold
  | pinReset => cases hcold
  | linkReset => cases hcold
  | _ => simp

theorem State.Effect.agr (h : s.Effect c t) (hcold : coldResets c = false)
    (hc : c ∉ [.agreeSet, .freeze, .periodClose, .stalledCellResume]) : t.agr = s.agr := by
  cases h with
  | chain h => exact h.frame.agr
  | journal h => exact h.frame.agr
  | routed h => exact h.frame.agr
  | completed _ _ _ h => simpa using h.agr hc
  | releaseResumed => simp at hc
  | closeResumed => simp at hc
  | cold => cases hcold
  | pinReset => cases hcold
  | linkReset => cases hcold
  | _ => simp

theorem State.Effect.now (h : s.Effect c t) (hcold : coldResets c = false)
    (hc : c ≠ .tickAdvance) : t.tb.now = s.tb.now := by
  cases h with
  | chain h => exact h.frame.now
  | journal h => exact h.frame.now
  | routed h => exact h.frame.now
  | completed _ _ _ h => simpa using h.frame.now
  | cold => cases hcold
  | pinReset => cases hcold
  | linkReset => cases hcold
  | ticked => exact absurd rfl hc
  | _ => simp

theorem State.Effect.timeOfWeek (h : s.Effect c t) (hcold : coldResets c = false)
    (hc : c ∉ [.tickAdvance, .clockSet]) : t.tb.timeOfWeek = s.tb.timeOfWeek := by
  cases h with
  | chain h => exact h.frame.timeOfWeek
  | journal h => exact h.frame.timeOfWeek
  | routed h => exact h.frame.timeOfWeek
  | completed _ _ _ h => simpa using h.timeOfWeek hc
  | cold => cases hcold
  | pinReset => cases hcold
  | linkReset => cases hcold
  | ticked => simp at hc
  | _ => simp

theorem State.Effect.bands (h : s.Effect c t) (hcold : coldResets c = false) (hc : c ≠ .bandSet) :
    t.tb.bands = s.tb.bands := by
  cases h with
  | chain h => exact h.frame.bands
  | journal h => exact h.frame.bands
  | routed h => exact h.frame.bands
  | completed _ _ _ h => simpa using h.bands hc
  | cold => cases hcold
  | pinReset => cases hcold
  | linkReset => cases hcold
  | _ => simp

theorem State.Effect.resets (h : s.Effect c t) (hcold : coldResets c = false)
    (hc : ∀ r, c ≠ .resetRelease r) : t.resets = s.resets := by
  cases h with
  | chain h => exact h.frame.resets
  | journal h => exact h.frame.resets
  | routed h => exact h.frame.resets
  | completed _ _ _ h => simpa using h.frame.resets
  | cold => cases hcold
  | pinReset => cases hcold
  | linkReset => cases hcold
  | resetReleased source => exact absurd rfl (hc source)
  | _ => simp

theorem State.Effect.pending (h : s.Effect c t) : t.pending = s.pending := by
  cases h with
  | chain h => exact h.frame.pending
  | journal h => exact h.frame.pending
  | routed h => exact h.frame.pending
  | completed _ _ _ h => simpa using h.frame.pending
  | cold => rfl
  | pinReset => rfl
  | linkReset => rfl
  | _ => simp

theorem State.Effect.anchor (h : s.Effect c t) (hcold : coldResets c = false)
    (hc : ∀ data, c ≠ .anchorReadEnd data) : t.cc.anchor = s.cc.anchor := by
  cases h with
  | chain h => exact h.frame.poll.anchor
  | journal h => exact h.frame.poll.anchor
  | routed h => exact h.frame.poll.anchor
  | completed _ _ _ h => simp [h.frame.cc]
  | cold => cases hcold
  | pinReset => cases hcold
  | linkReset => cases hcold
  | anchorLoaded _ data => exact absurd rfl (hc data)
  | _ => simp

theorem State.Effect.lines (h : s.Effect c t) (hcold : coldResets c = false)
    (hc : c ∉ [.restart, .invalidate, .agreeSet]) (hfill : ∀ data, c ≠ .fillCompletion data)
    (hanchor : ∀ data, c ≠ .anchorReadEnd data) : t.tau.lines = s.tau.lines := by
  cases h with
  | chain h => rw [h.frame.tau]
  | journal h => rw [h.frame.tau]
  | routed h => exact h.lines hfill
  | completed _ _ _ h => simpa using h.lines hc
  | restarted => simp at hc
  | cold => cases hcold
  | pinReset => cases hcold
  | linkReset => cases hcold
  | anchorLoaded _ data => exact absurd rfl (hanchor data)
  | _ => simp

theorem State.Effect.ct (h : s.Effect c t) (hcold : coldResets c = false)
    (hc : c ∉ [.seize, .crankback, .answer, .release, .reportChanges, .engineSet,
      .stalledCellResume, .fillFault, .fillNoReply, .tickAdvance])
    (hfill : ∀ data, c ≠ .fillCompletion data) (hoverdue : ∀ i, c ≠ .overdueExpiry i) :
    t.ct = s.ct := by
  cases h with
  | chain h => exact h.frame.ct
  | journal h => exact h.frame.ct
  | routed h =>
    cases h with
    | seized => simp at hc
    | crankedBack => simp at hc
    | walked p => cases p <;> simp [WalkFor.command] at hc
    | filled _ data => exact absurd rfl (hfill data)
    | fillFailed _ _ _ _ h => obtain rfl | rfl := h <;> simp at hc
  | completed _ _ _ h => simpa using h.ct hc
  | releaseResumed => simp at hc
  | closeResumed => simp at hc
  | cold => cases hcold
  | pinReset => cases hcold
  | linkReset => cases hcold
  | ticked => simp at hc
  | overdue i => exact absurd rfl (hoverdue i)
  | _ => simp

theorem State.Effect.groups (h : s.Effect c t) (hcold : coldResets c = false)
    (hc : c ∉ [.seize, .crankback, .release, .reportChanges, .groupSet, .stalledCellResume,
      .fillFault, .fillNoReply, .tickAdvance])
    (hfill : ∀ data, c ≠ .fillCompletion data) (hquiet : ∀ g, c ≠ .quietExpiry g)
    (hholdOff : ∀ g, c ≠ .holdOffEnd g) : t.groups = s.groups := by
  cases h with
  | chain h => exact h.frame.groups
  | journal h => exact h.frame.groups
  | routed h =>
    cases h with
    | seized => simp at hc
    | crankedBack => simp at hc
    | walked p => cases p <;> simp [WalkFor.command] at hc
    | filled _ data => exact absurd rfl (hfill data)
    | fillFailed _ _ _ _ h => obtain rfl | rfl := h <;> simp at hc
  | completed _ _ _ h => simpa using h.groups hc
  | releaseResumed => simp at hc
  | closeResumed => simp at hc
  | cold => cases hcold
  | pinReset => cases hcold
  | linkReset => cases hcold
  | ticked => simp at hc
  | quietExpired g => exact absurd rfl (hquiet g)
  | holdOffEnded g => exact absurd rfl (hholdOff g)
  | _ => simp

theorem State.Effect.cc (h : s.Effect c t) (hc : (reach c).chain = false) : t.cc = s.cc := by
  cases h with
  | chain h => rw [h.reach_chain] at hc; cases hc
  | journal h => exact h.frame.cc
  | routed h => rw [h.reach_eq] at hc; cases hc
  | completed => rw [RequestKind.reach_chain] at hc; cases hc
  | pollExpired _ _ h => obtain rfl | rfl := h <;> cases hc
  | nothing => rfl
  | ticked => simp
  | quietExpired => simp
  | holdOffEnded => simp
  | overdue => simp
  | statusWritten => rfl
  | enableWritten => rfl
  | captureCleared => rfl
  | resetReleased => rfl
  | _ => cases hc

theorem State.Effect.fill (h : s.Effect c t) (hc : (reach c).fill = false) :
    t.tau.fill = s.tau.fill := by
  cases h with
  | chain h => rw [h.frame.tau]
  | journal h => rw [h.frame.tau]
  | routed h => rw [h.reach_eq] at hc; cases hc
  | completed _ _ _ h => simpa using h.frame.fill
  | restarted => cases hc
  | cold => cases hc
  | pinReset => cases hc
  | linkReset => cases hc
  | _ => simp

theorem State.Effect.jw (h : s.Effect c t) (hc : (reach c).journal = false) : t.jw = s.jw := by
  cases h with
  | chain h => exact h.frame.jw
  | journal h => rw [h.reach_journal] at hc; cases hc
  | routed h => exact h.frame.jw
  | completed _ _ _ h => simpa using h.jw hc
  | pollExpired _ _ h => obtain rfl | rfl := h <;> cases hc
  | nothing => rfl
  | ticked => simp
  | pollCounted => rfl
  | quietExpired => simp
  | holdOffEnded => simp
  | overdue => simp
  | statusWritten => rfl
  | enableWritten => rfl
  | captureCleared => rfl
  | resetReleased => rfl
  | _ => cases hc

theorem State.Effect.afl (h : s.Effect c t) (hc : (reach c).attention = false) : t.afl = s.afl := by
  cases h with
  | chain h => exact h.afl hc
  | journal h => exact h.afl hc
  | routed h => rw [h.reach_eq] at hc; cases hc
  | completed _ _ _ h => simpa using h.afl hc
  | releaseResumed => simp
  | closeResumed => simp
  | nothing => rfl
  | started => simp
  | nudged => simp
  | pollCounted => rfl
  | pollExpired => simp
  | holdOffEnded => simp
  | resetReleased => rfl
  | _ => cases hc

/-! ## The poll counter -/

theorem State.coldReset_pollCounter (s : State) : s.coldReset.tb.pollCounter = 0 := rfl

theorem State.pollExpiry_pollCounter (s : State) : s.pollExpiry.tb.pollCounter = 0 := by
  have hkept (u : State) : u.PollKept (if s.cc.state = .waiting then u.readLink else u) := by
    split
    · exact u.readLink_pollKept
    · exact .refl u
  have hcounter : State.PollKept { s with tb := { s.tb with pollCounter := 0 } } s.pollExpiry := by
    unfold State.pollExpiry
    simp only
    split
    · exact (hkept _).trans (State.openPage_pollKept _ _)
    · exact hkept _
  exact hcounter.counter.elim id id

theorem State.loadAnchor_pollCounter (s : State) (f : AnchorFields) :
    (s.loadAnchor f).tb.pollCounter = 0 := by
  have hkept := (State.reopenJournal_journalFrame (State.flush { s with
    cc := { s.cc with anchor := f }, tb := { s.tb with pollCounter := 0 } })).poll.trans
      (State.writeRetireMark_pollKept _ .anchorEngineWrite 0)
  exact hkept.counter.elim id id

theorem State.restart_pollKept (s : State) : s.PollKept s.restart := by
  refine s.restartJournal_journalFrame.poll.trans ?_
  rw [State.restart, State.chainIdle_eq]
  exact State.pollKept_settlePoll rfl rfl

theorem State.nudgeChain_pollKept (s : State) : s.PollKept s.nudgeChain := by
  have hsame : s.PollKept { s with cc := { s.cc with nudgeSeen := true } } :=
    State.pollKept_of_counter rfl rfl rfl rfl rfl
  unfold State.nudgeChain
  split
  case h_1 => exact s.readLink_pollKept
  case h_2 => exact hsame
  case h_3 => exact hsame
  case h_4 => exact hsame
  case h_5 => exact .refl s
  case h_6 => exact .refl s

/-- The counter is kept or settled, is 0, has counted, or stands while a reset is released. -/
theorem State.Effect.poll (h : s.Effect c t) :
    s.PollKept t ∨ t.tb.pollCounter = 0 ∨
    (c = .pollTick ∧ s.pollCounting = true ∧ s.pollReaches = false ∧
      t = { s with tb := { s.tb with pollCounter := s.tb.pollCounter + 1 } }) ∨
    ((∃ source, c = .resetRelease source) ∧ t.tb.pollCounter = s.tb.pollCounter ∧
      t.cc.anchor = s.cc.anchor ∧ (s.pollCounting = true → t.pollCounting = true)) := by
  have hkept (hchain : t.cc = s.cc) (hjournal : t.jw = s.jw) (hresets : t.resets = s.resets)
      (hcounter : t.tb.pollCounter = s.tb.pollCounter) : s.PollKept t :=
    State.pollKept_of_counter (by rw [hchain]) (by rw [hchain]) (by rw [hjournal]) hresets hcounter
  cases h with
  | nothing => exact .inl (.refl s)
  | chain h => exact .inl h.frame.poll
  | journal h => exact .inl h.frame.poll
  | routed h => exact .inl h.frame.poll
  | completed _ _ _ h => exact .inl (h.pollKept.trans (State.complete_pollKept _ _ _))
  | releaseResumed r _ _ hfree =>
    exact .inl ((State.RequestChange.charged r hfree).pollKept.trans (State.complete_pollKept _ _ _))
  | closeResumed _ _ hready =>
    exact .inl ((State.RequestChange.closed hready).pollKept.trans (State.complete_pollKept _ _ _))
  | started => exact .inl (s.readLink_pollKept.trans (State.startJournal_journalFrame _).poll)
  | restarted => exact .inl s.restart_pollKept
  | nudged => exact .inl (s.nudgeChain_pollKept.trans (State.nudgeJournal_journalFrame _).poll)
  | cold => exact .inr (.inl s.coldReset_pollCounter)
  | pinReset => exact .inr (.inl s.coldReset_pollCounter)
  | linkReset => exact .inr (.inl s.coldReset_pollCounter)
  | pollExpired => exact .inr (.inl s.pollExpiry_pollCounter)
  | anchorLoaded => exact .inr (.inl (State.loadAnchor_pollCounter _ _))
  | pollCounted hcounting hbelow => exact .inr (.inr (.inl ⟨rfl, hcounting, hbelow, rfl⟩))
  | resetReleased source r hpin hlink =>
    refine .inr (.inr (.inr ⟨⟨source, rfl⟩, rfl, rfl, fun hcounting => ?_⟩))
    simp only [State.pollCounting, State.inReset, Bool.and_eq_true, Bool.not_eq_true',
      Bool.or_eq_false_iff] at hcounting ⊢
    obtain ⟨hwaits, hpinFree, hlinkFree⟩ := hcounting
    exact ⟨hwaits, by simpa [hpinFree] using hpin, by simpa [hlinkFree] using hlink⟩
  | _ => exact .inl (hkept (by simp) (by simp) (by simp) (by simp))

theorem State.pollSound_of_zero {t : State} (h : t.tb.pollCounter = 0) : t.PollSound where
  counting hcounting := by
    simp only [State.pollCounting, Bool.and_eq_true, bne_iff_ne] at hcounting
    omega
  stopped _ := h

theorem State.PollKept.pollSound {s t : State} (h : s.PollKept t) (hs : s.PollSound) :
    t.PollSound := by
  obtain hcounter | hzero := h.counter
  · cases hcounting : s.pollCounting with
    | false => exact State.pollSound_of_zero (hcounter.trans (hs.stopped hcounting))
    | true =>
      refine ⟨fun _ => ?_, fun hstop => ?_⟩
      · rw [hcounter, h.anchor]
        exact hs.counting hcounting
      · obtain hzero | ⟨hstopped, -⟩ := h.stopped hstop
        · exact hzero
        · rw [hcounting] at hstopped
          cases hstopped
  · exact State.pollSound_of_zero hzero

theorem State.Effect.pollSound (h : s.Effect c t) (hs : s.PollSound) : t.PollSound := by
  obtain hkept | hzero | ⟨-, hcounting, hbelow, rfl⟩ | ⟨-, hcounter, hanchor, hmore⟩ := h.poll
  · exact hkept.pollSound hs
  · exact State.pollSound_of_zero hzero
  · refine ⟨fun _ => by simpa [State.pollReaches] using hbelow, fun hstop => ?_⟩
    exact absurd hcounting (by rw [Bool.eq_false_iff] at hstop; exact hstop)
  · cases hcounting : s.pollCounting with
    | false => exact State.pollSound_of_zero (hcounter.trans (hs.stopped hcounting))
    | true =>
      refine ⟨fun _ => ?_, fun hstop => ?_⟩
      · rw [hcounter, hanchor]
        exact hs.counting hcounting
      · rw [hmore hcounting] at hstop
        cases hstop

theorem State.Effect.pollCounter (h : s.Effect c t) (hc : c ≠ .pollTick) :
    t.tb.pollCounter = s.tb.pollCounter ∨ t.tb.pollCounter = 0 := by
  obtain hkept | hzero | ⟨rfl, -⟩ | ⟨-, hcounter, -⟩ := h.poll
  · exact hkept.counter
  · exact .inr hzero
  · exact absurd rfl hc
  · exact .inl hcounter

theorem State.Effect.pollCounter_of_reach (h : s.Effect c t) (hchain : (reach c).chain = false)
    (hjournal : (reach c).journal = false) : t.tb.pollCounter = s.tb.pollCounter := by
  cases h with
  | chain h => rw [h.reach_chain] at hchain; cases hchain
  | journal h => rw [h.reach_journal] at hjournal; cases hjournal
  | routed h => rw [h.reach_eq] at hchain; cases hchain
  | completed => rw [RequestKind.reach_chain] at hchain; cases hchain
  | pollExpired _ _ h => obtain rfl | rfl := h <;> cases hchain
  | nothing => rfl
  | ticked => simp
  | quietExpired => simp
  | holdOffEnded => simp
  | overdue => simp
  | statusWritten => rfl
  | enableWritten => rfl
  | captureCleared => rfl
  | resetReleased => rfl
  | _ => cases hchain

end Effect

/-! ## O1, O2, O3 and O56 -/

/-- Settles O1, by the two cases of the queue. -/
theorem stepCarriesOutFrontCommand : Obligations.StepCarriesOutFrontCommand :=
  ⟨fun c rest s h => by rw [step, h], fun s h => by rw [step, h]⟩

/-- Settles O2: every command comes to one of the cases of `State.Effect`, which all keep the queue. -/
theorem everyCommandAnswersNext : Obligations.EveryCommandAnswersNext := by
  intro c s
  obtain ⟨t, hrun, heffect⟩ := exec_comes c s
  exact ⟨t, hrun, heffect.pending⟩

/-- Settles O3: each block's frame over the cases of a command. -/
theorem blocksChangeOnlyByTheirCommands : Obligations.BlocksChangeOnlyByTheirCommands := by
  intro c s t hrun hcold
  have h := exec_effect hrun
  exact ⟨h.profiles hcold, h.ru hcold, h.agr hcold, h.now hcold, h.timeOfWeek hcold, h.bands hcold,
    h.resets hcold, h.anchor hcold, h.lines hcold, h.ct hcold, h.groups hcold, h.cc, h.fill, h.jw,
    h.afl, h.pollCounter, h.pollCounter_of_reach⟩

/-- Settles O56: every case of a command keeps the poll counter sound. -/
theorem pollCounterStaysBelowPeriod : Obligations.PollCounterStaysBelowPeriod :=
  step_keeps (fun _ _ hs => ⟨hs.counting, hs.stopped⟩) fun _ _ _ h => h.pollSound

end Sys2Proof.Machine
end

section
/-! SUPPORT. The line cache over every step, and the settlement of O51 (R33, R40). -/

namespace Sys2Proof.Machine

section
variable {s t : State}

/-- Only TAU decides whether the line cache is sound. -/
theorem State.CacheSound.congr (hs : s.CacheSound) (h : t.tau = s.tau) : t.CacheSound where
  room := h ▸ hs.room
  tags := h ▸ hs.tags
  sizes := h ▸ hs.sizes
  fill f hf := by
    have hmiss := hs.fill f (h ▸ hf)
    rwa [State.lookup, h]

/-- Dropping lines keeps the rest in order, and a tag not held stays so. -/
theorem State.CacheSound.dropLines (hs : s.CacheSound) (test : Tag → Bool) :
    (s.dropLines test).CacheSound where
  room := (List.length_filter_le _ _).trans hs.room
  tags := hs.tags.sublist (List.filter_sublist.map Line.tag)
  sizes l hl := hs.sizes l (List.mem_of_mem_filter hl)
  fill f hf := State.lookup_eq_none.mpr fun l hl =>
    State.lookup_eq_none.mp (hs.fill f hf) l (List.mem_of_mem_filter hl)

/-- A cache without lines is sound whatever the fill. -/
theorem State.cacheSound_of_empty (h : t.tau.lines = []) : t.CacheSound where
  room := by simp [h]
  tags := by simp [h]
  sizes := by simp [h]
  fill f _ := State.lookup_eq_none.mpr (by simp [h])

/-- A fill is asked for only after a miss. -/
theorem State.CacheSound.startFill (hs : s.CacheSound) {tag : Tag} (hmiss : s.lookup tag = none)
    (r : Requester) : (s.startFill tag r).CacheSound where
  room := hs.room
  tags := hs.tags
  sizes := hs.sizes
  fill := by
    rintro f ⟨⟩
    exact hmiss

theorem State.CacheSound.abandonFill (hs : s.CacheSound) : s.abandonFill.CacheSound where
  room := hs.room
  tags := hs.tags
  sizes := hs.sizes
  fill := nofun

/-- The line of a fill has a tag that is not held, so that the tags stay distinct (R40). -/
theorem State.CacheSound.install (hs : s.CacheSound) {f : Fill} (hfill : s.tau.fill = some f)
    (data : List Byte) :
    State.CacheSound { s with tau := ⟨installLine ⟨f.tag, readBytes f.tag.kind.bytes data⟩ s.tau.lines,
      none⟩ } := by
  have hnew := State.lookup_eq_none.mp (hs.fill f hfill)
  have hkept : ∃ kept, kept.Sublist s.tau.lines ∧
      installLine ⟨f.tag, readBytes f.tag.kind.bytes data⟩ s.tau.lines
        = kept ++ [⟨f.tag, readBytes f.tag.kind.bytes data⟩] := by
    rw [installLine_eq]
    split
    · exact ⟨_, List.tail_sublist _, rfl⟩
    · exact ⟨_, List.Sublist.refl _, rfl⟩
  have hroom := installLine_length ⟨f.tag, readBytes f.tag.kind.bytes data⟩ _ hs.room
  obtain ⟨kept, hsub, hlines⟩ := hkept
  rw [hlines] at hroom ⊢
  refine ⟨hroom, ?_, fun l hl => ?_, nofun⟩
  · rw [List.map_append, List.nodup_append]
    refine ⟨hs.tags.sublist (hsub.map _), List.nodup_singleton _, ?_⟩
    simp only [List.mem_map, List.map_cons, List.map_nil, List.mem_singleton]
    rintro _ ⟨l, hl, rfl⟩ _ rfl
    exact hnew l (hsub.subset hl)
  · obtain hl | hl := List.mem_append.mp hl
    · exact hs.sizes l (hsub.subset hl)
    · rw [List.mem_singleton.mp hl]
      exact readBytes_length _ _

/-! ## The events of SEIZE and CRANKBACK -/

theorem State.Considered.cacheSound (h : s.Considered t) (hs : s.CacheSound) : t.CacheSound :=
  hs.congr (by rw [h.frame])

theorem State.WalkNext.cacheSound {p : WalkFor} (h : State.WalkNext p s t) (hs : s.CacheSound) :
    t.CacheSound := by
  cases h with
  | exhausted => exact hs.congr (by simp)
  | goesOn _ _ h => exact (h.cacheSound hs).congr (by simp)
  | waits _ _ _ hmiss => exact hs.startFill hmiss _
  | admitted _ _ _ _ _ h => exact (h.cacheSound hs).congr (by simp)

theorem State.SeizeNext.cacheSound (h : s.SeizeNext t) (hs : s.CacheSound) : t.CacheSound := by
  cases h with
  | refused => exact hs.congr (by simp)
  | waits _ _ hmiss => exact hs.startFill hmiss _
  | walks => exact hs.congr (by simp)

theorem State.CrankCellNext.cacheSound (h : s.CrankCellNext t) (hs : s.CacheSound) :
    t.CacheSound := by
  have hpressed (g : GroupId) : (s.pressure g).CacheSound := hs.congr (by simp)
  cases h with
  | refused => exact hs.congr (by simp)
  | limit => exact hs.congr (by simp)
  | walks _ _ _ h =>
    cases h with
    | waits _ hmiss => exact (hpressed _).startFill hmiss _
    | walks => exact hs.congr (by simp)

theorem Requester.Next.cacheSound {r : Requester} (h : r.Next s t) (hs : s.CacheSound) :
    t.CacheSound := by
  cases h with
  | seize _ h => exact h.cacheSound hs
  | walk _ _ h => exact h.cacheSound hs
  | freed => exact hs.congr (by simp)

theorem State.RouteEffect.cacheSound {c : Instr} (h : s.RouteEffect c t) (hs : s.CacheSound) :
    t.CacheSound := by
  cases h with
  | seized cell => exact (seizeFirstEvent_next cell s).cacheSound (hs.congr (by simp))
  | crankedBack cell => exact (crankbackCell_next cell s).cacheSound hs
  | walked p attempts choices => exact (s.walkEvent_next p attempts choices).cacheSound hs
  | filled f data hfill => exact (f.requester.onLine_next _ _).cacheSound (hs.install hfill data)
  | fillFailed _ kind f =>
    exact (f.requester.onFault_next _).cacheSound
      (State.CacheSound.congr hs.abandonFill (by rfl))

/-! ## O51 -/

theorem State.RequestChange.cacheSound {u : State} {k : RequestKind} (h : s.RequestChange k u)
    (hs : s.CacheSound) : u.CacheSound := by
  cases h with
  | linesDropped test => exact hs.dropLines test
  | agreement _ r =>
    have hset : (s.setAgreement r.carrier (r.apply (s.agreement r.carrier))).CacheSound :=
      hs.congr rfl
    unfold State.agreeSet
    simp only
    split
    · exact hset
    · exact hset.dropLines _
  | reported => exact hs.congr (by rw [State.clearChanges_eq])
  | released _ far => cases far <;> exact hs.congr (by simp)
  | _ => exact hs.congr (by simp)

theorem State.Effect.cacheSound {c : Instr} (h : s.Effect c t) (hs : s.CacheSound) :
    t.CacheSound := by
  cases h with
  | chain h => exact hs.congr h.frame.tau
  | journal h => exact hs.congr h.frame.tau
  | routed h => exact h.cacheSound hs
  | completed _ _ _ h => exact (h.cacheSound hs).congr (by simp)
  | restarted => exact State.cacheSound_of_empty (by simp [State.restart, State.abandonFill, State.flush])
  | cold => exact State.cacheSound_of_empty rfl
  | pinReset => exact State.cacheSound_of_empty rfl
  | linkReset => exact State.cacheSound_of_empty rfl
  | anchorLoaded => exact State.cacheSound_of_empty (by simp [State.loadAnchor, State.flush])
  | _ => exact hs.congr (by simp)

end

/-- Settles O51: TAU changes by a drop of lines, a flush, a fill asked for after a miss, and the
installation of the line that a fill has brought. -/
theorem lineCacheStaysSound : Obligations.LineCacheStaysSound :=
  step_keeps (fun _ _ hs => hs.congr rfl) fun _ _ _ h => h.cacheSound

end Sys2Proof.Machine
end

section
/-! SUPPORT. A held reset over every step, and the settlement of O57 (R174). -/

namespace Sys2Proof.Machine

section
variable {s t : State} {c : Instr}

/-- The cold values of the blocks that decide which events can come about. -/
structure State.IsCold (s : State) : Prop where
  cc : s.cc = ChainController.cold
  tau : s.tau = TableAccess.cold
  groups : s.groups = Vector.replicate 512 Group.cold
  ct : s.ct = ContextTable.cold
  jw : s.jw = JournalWriter.cold

theorem State.isCold_of_eq (h : s = s.coldReset) : s.IsCold where
  cc := by rw [h]; rfl
  tau := by rw [h]; rfl
  groups := by rw [h]; rfl
  ct := by rw [h]; rfl
  jw := by rw [h]; rfl

theorem State.IsCold.not_inHand (h : s.IsCold) (k : RequestKind) (cell : FetchedCell) :
    ¬ s.InHand k cell := by
  rintro ⟨hstate, -⟩
  rw [h.cc] at hstate
  cases hstate

theorem State.IsCold.not_chainEffect (h : s.IsCold) (hreset : s.inReset = true) :
    ¬ s.ChainEffect c t := by
  intro heffect
  have hflight : s.cc.flight = none := by rw [h.cc]; rfl
  have hstate : s.cc.state = .idle := by rw [h.cc]; rfl
  cases heffect with
  | anchorAsked hfree => simp [hreset] at hfree
  | anchorWritten _ _ hfree => simp [hreset] at hfree
  | stopNoted hbusy => simp [hstate] at hbusy
  | stopped hwaiting => simp [hstate] at hwaiting
  | faultLeft hfaulted => simp [hstate] at hfaulted
  | abandonedReported n a ha => simp [h.cc, ChainController.cold] at ha
  | releaseStalled _ _ hcell => exact h.not_inHand _ _ hcell
  | closeStalled _ hcell => exact h.not_inHand _ _ hcell
  | headTaken _ hf => simp [hflight] at hf
  | dispatched _ _ hf => simp [hflight] at hf
  | resultWritten _ _ hf => simp [hflight] at hf
  | completedToIdle _ _ hf => simp [hflight] at hf
  | completedToLink _ _ hf => simp [hflight] at hf
  | linkStopped _ _ hf => simp [hflight] at hf
  | linkReread _ _ hf => simp [hflight] at hf
  | linkAwaited _ _ hf => simp [hflight] at hf
  | retired _ _ _ hf => simp [hflight] at hf
  | nextTaken _ _ hf => simp [hflight] at hf
  | faulted _ _ _ hf => simp [hflight] at hf

theorem State.IsCold.not_journalEffect (h : s.IsCold) : ¬ s.JournalEffect c t := by
  intro heffect
  have hflight : s.jw.flight = none := by rw [h.jw]; rfl
  cases heffect with
  | abandonedReported n a ha => simp [h.jw, JournalWriter.cold] at ha
  | pageOpened _ _ _ hf => simp [hflight] at hf
  | pageAwaited _ _ _ hf => simp [hflight] at hf
  | recordWritten _ _ hf => simp [hflight] at hf
  | countWritten _ _ hf => simp [hflight] at hf
  | prefetched _ _ hf => simp [hflight] at hf
  | headerWritten _ hf => simp [hflight] at hf
  | mapCleared _ hf => simp [hflight] at hf
  | closed _ _ hf => simp [hflight] at hf
  | faulted _ _ _ hf => simp [hflight] at hf

theorem State.IsCold.not_routeEffect (h : s.IsCold) : ¬ s.RouteEffect c t := by
  intro heffect
  have hfill : s.tau.fill = none := by rw [h.tau]; rfl
  cases heffect with
  | seized _ hcell => exact h.not_inHand _ _ hcell
  | crankedBack _ hcell => exact h.not_inHand _ _ hcell
  | walked _ _ _ hwalk =>
    obtain ⟨hstate, -⟩ := hwalk
    rw [h.cc] at hstate
    cases hstate
  | filled _ _ hf => simp [hfill] at hf
  | fillFailed _ _ _ hf => simp [hfill] at hf

theorem State.IsCold.group (h : s.IsCold) (g : GroupId) : s.group g = Group.cold := by
  simp [State.group, h.groups]

theorem State.IsCold.context (h : s.IsCold) (i : CtxId) : s.context i = Context.cold := by
  simp [State.context, h.ct, ContextTable.cold]

/-- In a cold part with a reset held a command changes nothing, puts the part to its cold values again, or
releases a line of the reset. -/
theorem State.Effect.of_held (h : s.Effect c t) (hcold : s.IsCold) (hreset : s.inReset = true) :
    t = s ∨ (∃ r, t = { s.coldReset with resets := r }) ∨ ∃ r, t = { s with resets := r } := by
  cases h with
  | nothing => exact .inl rfl
  | pinReset => exact .inr (.inl ⟨_, rfl⟩)
  | linkReset => exact .inr (.inl ⟨_, rfl⟩)
  | resetReleased _ r => exact .inr (.inr ⟨r, rfl⟩)
  | chain h => exact absurd h (hcold.not_chainEffect hreset)
  | journal h => exact absurd h hcold.not_journalEffect
  | routed h => exact absurd h hcold.not_routeEffect
  | completed _ _ hcell => exact absurd hcell (hcold.not_inHand _ _)
  | releaseResumed _ _ hstate => rw [hcold.cc] at hstate; cases hstate
  | closeResumed _ hstate => rw [hcold.cc] at hstate; cases hstate
  | started _ hvalid => rw [hcold.cc] at hvalid; cases hvalid
  | pollCounted hcounting => simp [State.pollCounting, hreset] at hcounting
  | pollExpired _ hcounting => simp [State.pollCounting, hreset] at hcounting
  | quietExpired g hdue => simp [hcold.group, Group.quietDue, Group.cold] at hdue
  | holdOffEnded g hdue => simp [hcold.group, Group.holdOffDue, Group.cold] at hdue
  | overdue i hdue => simp [State.overdueDue, hcold.context, Context.overdueAt, Context.cold] at hdue
  | anchorLoaded _ _ hf => rw [hcold.cc] at hf; cases hf
  | restarted hfree => simp [hreset] at hfree
  | cold hfree => simp [hreset] at hfree
  | nudged _ hfree => simp [hreset] at hfree
  | statusWritten _ hfree => simp [hreset] at hfree
  | enableWritten _ hfree => simp [hreset] at hfree
  | captureCleared _ hfree => simp [hreset] at hfree
  | ticked hfree => simp [hreset] at hfree

/-- A reset that is held after a command was held before it, or has put the part to its cold values. -/
theorem State.Effect.held (h : s.Effect c t) (hreset : t.inReset = true) :
    s.inReset = true ∨ ∃ r, t = { s.coldReset with resets := r } := by
  cases h with
  | cold hfree => exact .inr ⟨s.resets, rfl⟩
  | pinReset => exact .inr ⟨_, rfl⟩
  | linkReset => exact .inr ⟨_, rfl⟩
  | resetReleased _ r hpin hlink =>
    refine .inl ?_
    simp only [State.inReset, Bool.or_eq_true] at hreset ⊢
    exact hreset.imp hpin hlink
  | chain h => exact .inl (by rwa [State.inReset, h.frame.resets] at hreset)
  | journal h => exact .inl (by rwa [State.inReset, h.frame.resets] at hreset)
  | routed h => exact .inl (by rwa [State.inReset, h.frame.resets] at hreset)
  | completed _ _ _ h =>
    exact .inl (by rwa [State.inReset, State.complete_resets, h.frame.resets] at hreset)
  | _ => exact .inl (by simpa [State.inReset] using hreset)

theorem State.Effect.heldResetCold (h : s.Effect c t) (hs : s.HeldResetCold) : t.HeldResetCold := by
  intro hreset
  obtain hbefore | ⟨r, rfl⟩ := h.held hreset
  · have hcold := hs hbefore
    obtain rfl | ⟨r, rfl⟩ | ⟨r, rfl⟩ := h.of_held (State.isCold_of_eq hcold) hbefore
    · exact hcold
    · rfl
    · exact congrArg (fun u : State => { u with resets := r }) hcold
  · rfl

end

/-- Settles O57: in the cold part no event can come about but those of the reset lines. -/
theorem heldResetKeepsThePartCold : Obligations.HeldResetKeepsThePartCold :=
  step_keeps
    (fun _ q hs hreset => congrArg (fun u : State => { u with pending := q }) (hs hreset))
    fun _ _ _ h => h.heldResetCold

end Sys2Proof.Machine
end

section
/-! SUPPORT. The attention and the fault capture over every command, and the settlement of O58 (R170,
R171, R172). -/

namespace Sys2Proof.Machine

/-! ## What events do to the attention -/

/-- Causes have only been set, the enables stand, the capture has only filled or set LOST, and one message
is counted exactly when the signal has become asserted. -/
structure AttentionLogic.Grown (a b : AttentionLogic) : Prop where
  interrupts : b.interrupts = a.interrupts + if a.signal = false ∧ b.signal = true then 1 else 0
  status : a.status &&& b.status = a.status
  enable : b.enable = a.enable
  capture : ∀ f, a.capture = some f →
    ∃ lost, b.capture = some { f with lost := lost } ∧ (f.lost = true → lost = true)

theorem AttentionLogic.Grown.refl (a : AttentionLogic) : a.Grown a where
  interrupts := by simp
  status := BitVec.and_self
  enable := rfl
  capture f hf := ⟨f.lost, hf, id⟩

/-- An asserted signal stays asserted while causes are only set. -/
theorem AttentionLogic.Grown.signal {a b : AttentionLogic} (h : a.Grown b) (ha : a.signal = true) :
    b.signal = true := by
  simp only [AttentionLogic.signal, bne_iff_ne, h.enable] at ha ⊢
  intro hnone
  refine ha ?_
  rw [← h.status, BitVec.and_assoc, hnone]
  exact BitVec.and_zero

theorem AttentionLogic.Grown.trans {a b d : AttentionLogic} (h : a.Grown b) (k : b.Grown d) :
    a.Grown d where
  interrupts := by
    have hab := h.interrupts
    have hbd := k.interrupts
    have hkept := h.signal
    have hkept' := k.signal
    cases ha : a.signal <;> cases hb : b.signal <;> cases hd : d.signal <;> simp_all
  status := by
    calc a.status &&& d.status = a.status &&& b.status &&& d.status := by rw [h.status]
      _ = a.status &&& b.status := by rw [BitVec.and_assoc, k.status]
      _ = a.status := h.status
  enable := k.enable.trans h.enable
  capture f hf := by
    obtain ⟨lost, hb, hlost⟩ := h.capture f hf
    obtain ⟨lost', hd, hlost'⟩ := k.capture _ hb
    exact ⟨lost', hd, fun hset => hlost' (hlost hset)⟩

theorem AttentionLogic.update_interrupts (a : AttentionLogic) (status enable : CauseBits) :
    (a.update status enable).interrupts = a.interrupts
      + if a.signal = false ∧ (a.update status enable).signal = true then 1 else 0 := by
  simp only [AttentionLogic.update_eq, AttentionLogic.signal]
  rfl

theorem AttentionLogic.and_or_status (a m : CauseBits) : a &&& (a ||| m) = a := by
  refine BitVec.eq_of_getLsbD_eq fun n _ => ?_
  rw [BitVec.getLsbD_and, BitVec.getLsbD_or]
  cases a.getLsbD n <;> rfl

theorem AttentionLogic.raise_grown (a : AttentionLogic) (c : Cause) : a.Grown (a.raise c) where
  interrupts := a.update_interrupts _ _
  status := by
    rw [AttentionLogic.raise_status]
    exact AttentionLogic.and_or_status _ _
  enable := a.raise_enable c
  capture f hf := ⟨f.lost, by simpa using hf, id⟩

/-- A fault offered sets FAULT once the capture has taken it. -/
theorem AttentionLogic.offer_grown (a : AttentionLogic) (kind : FaultKind) (agent : Agent)
    (address : Addr) : a.Grown (a.offer kind agent address) where
  interrupts := AttentionLogic.update_interrupts _ _ _
  status := by
    rw [AttentionLogic.offer_status]
    exact AttentionLogic.and_or_status _ _
  enable := a.offer_enable kind agent address
  capture f hf := ⟨true, by rw [AttentionLogic.offer_capture, hf]; rfl, fun _ => rfl⟩

/-- An event that sets a cause where a test holds. -/
theorem AttentionLogic.raise_if_grown (a : AttentionLogic) (c : Cause) (b : Bool) :
    a.Grown (if b then a.raise c else a) := by
  split
  · exact a.raise_grown c
  · exact .refl a

/-! ## The operations -/

section
variable {s t : State} {c : Instr}

theorem AttentionLogic.grown_of_eq {a b : AttentionLogic} (h : b = a) : a.Grown b := h ▸ .refl a

theorem State.monitor_grown (s : State) (g : GroupId) (x : Group × Bool) :
    s.afl.Grown (s.monitor g x).afl := by
  rw [State.monitor_eq]
  exact s.afl.raise_if_grown .change x.2

theorem State.Considered.grown (h : s.Considered t) : s.afl.Grown t.afl :=
  h.keeps (P := fun u => s.afl.Grown u.afl) (.refl _)
    (fun _ g hu => hu.trans (State.monitor_grown _ g _)) fun _ _ hu => hu

theorem State.WalkNext.grown {p : WalkFor} (h : State.WalkNext p s t) : s.afl.Grown t.afl := by
  cases h with
  | exhausted => exact AttentionLogic.grown_of_eq (by simp)
  | goesOn _ _ h => exact h.grown
  | waits => exact .refl _
  | admitted _ _ _ _ _ h => exact h.grown.trans (AttentionLogic.grown_of_eq (by simp))

theorem State.SeizeNext.grown (h : s.SeizeNext t) : s.afl.Grown t.afl := by
  cases h with
  | refused => exact AttentionLogic.grown_of_eq (by simp)
  | waits => exact .refl _
  | walks => exact .refl _

theorem State.CrankCellNext.grown (h : s.CrankCellNext t) : s.afl.Grown t.afl := by
  have hpressed (g : GroupId) : s.afl.Grown (s.pressure g).afl := State.monitor_grown _ g _
  cases h with
  | refused => exact AttentionLogic.grown_of_eq (by simp)
  | limit => exact (hpressed _).trans (AttentionLogic.grown_of_eq (State.endCrankback_afl ..))
  | walks _ _ _ h => cases h <;> exact hpressed _

theorem Requester.Next.grown {r : Requester} (h : r.Next s t) : s.afl.Grown t.afl := by
  cases h with
  | seize _ h => exact h.grown
  | walk _ _ h => exact h.grown
  | freed => exact AttentionLogic.grown_of_eq (by simp)

theorem State.RouteEffect.grown (h : s.RouteEffect c t) : s.afl.Grown t.afl := by
  cases h with
  | seized cell => exact (seizeFirstEvent_next cell s).grown
  | crankedBack cell => exact (crankbackCell_next cell s).grown
  | walked p attempts choices => exact (s.walkEvent_next p attempts choices).grown
  | filled f data =>
    exact (f.requester.onLine_next (readBytes f.tag.kind.bytes data) { s with tau :=
      ⟨installLine ⟨f.tag, readBytes f.tag.kind.bytes data⟩ s.tau.lines, none⟩ }).grown
  | fillFailed _ kind f =>
    exact (s.afl.offer_grown kind .table f.address).trans
      (f.requester.onFault_next (s.offerFault kind .table f.address).abandonFill).grown

theorem State.completed_grown {u : State} (hu : u = if s.notifies then s.raise .cell else s) :
    s.afl.Grown u.afl := by
  subst hu
  split
  · exact s.afl.raise_grown .cell
  · exact .refl _

theorem State.ChainEffect.grown (h : s.ChainEffect c t) : s.afl.Grown t.afl := by
  cases h with
  | completedToIdle _ _ _ hu =>
    exact (State.completed_grown hu).trans (AttentionLogic.grown_of_eq (by simp))
  | completedToLink _ _ _ hu =>
    exact (State.completed_grown hu).trans (AttentionLogic.grown_of_eq (by simp))
  | faulted =>
    rw [State.chainFault_eq, State.settlePoll_afl]
    exact s.afl.offer_grown _ _ _
  | abandonedReported => exact s.afl.offer_grown _ _ _
  | _ => exact AttentionLogic.grown_of_eq (by simp)

theorem State.finishClose_grown (s : State) (periodEnd : Bool) :
    s.afl.Grown (s.finishClose periodEnd).afl := by
  cases periodEnd
  case false => exact s.afl.raise_grown .page
  case true => exact (s.afl.raise_grown .page).trans (AttentionLogic.raise_grown _ .period)

theorem State.finishCloseOf_grown (s : State) (f : Option JournalFlight) :
    s.afl.Grown (s.finishCloseOf f).afl := by
  unfold State.finishCloseOf
  split
  · exact s.finishClose_grown _
  · exact .refl _

theorem State.restartJournal_grown (s : State) : s.afl.Grown s.restartJournal.afl := by
  rw [State.restartJournal_eq, State.settlePoll_afl]
  exact s.finishCloseOf_grown _

theorem State.loadAnchor_grown (s : State) (f : AnchorFields) :
    s.afl.Grown (s.loadAnchor f).afl := by
  have hrestarted := State.restartJournal_grown (State.flush { s with
    cc := { s.cc with anchor := f }, tb := { s.tb with pollCounter := 0 } })
  exact hrestarted.trans
    (AttentionLogic.grown_of_eq (by simp [State.loadAnchor, State.reopenJournal]))

theorem State.waitForPage_grown (s : State) (reread : Bool) :
    s.afl.Grown (s.waitForPage reread).afl := by
  have hraised : (s.waitForPage reread).afl = if reread then s.afl else s.afl.raise .jstall := by
    unfold State.waitForPage
    cases reread <;> simp only [Bool.false_eq_true, if_false, if_true] <;> split <;>
      simp [State.raise]
  rw [hraised]
  split
  · exact .refl _
  · exact s.afl.raise_grown .jstall

theorem State.JournalEffect.grown (h : s.JournalEffect c t) : s.afl.Grown t.afl := by
  cases h with
  | pageAwaited reread => exact s.waitForPage_grown reread
  | closed periodEnd =>
    exact (s.finishClose_grown periodEnd).trans (AttentionLogic.grown_of_eq (by simp))
  | faulted _ kind f =>
    rw [State.journalFault_eq, State.settlePoll_afl]
    exact (s.afl.offer_grown kind .journal f.access.base).trans
      (State.finishCloseOf_grown (s.offerFault kind .journal f.access.base) (some f))
  | abandonedReported => exact s.afl.offer_grown _ _ _
  | _ => exact AttentionLogic.grown_of_eq (by simp)

theorem State.RequestChange.grown {u : State} {k : RequestKind} (h : s.RequestChange k u) :
    s.afl.Grown u.afl := by
  cases h with
  | released i far =>
    cases far
    case false => exact AttentionLogic.grown_of_eq (by simp)
    case true =>
      exact (State.monitor_grown s _ _).trans
        (AttentionLogic.grown_of_eq (State.freeContext_afl (s.pressure _) i))
  | reported => exact AttentionLogic.grown_of_eq (by rw [State.clearChanges_eq])
  | _ => exact AttentionLogic.grown_of_eq (by simp)

theorem State.ticked_grown (s : State) :
    s.afl.Grown s.takeGroupExpiries.takeOverdueExpiries.advanceTick.afl := by
  rw [State.advanceTick_afl, State.takeOverdueExpiries_eq, State.takeGroupExpiries_eq]
  exact (s.afl.raise_if_grown .change _).trans (AttentionLogic.raise_if_grown _ .change _)

/-! ## Every command -/

/-- What a command makes of the attention: a reset clears it, the three registers each clear or write one
field, and every other command only adds to it. -/
inductive AttentionLogic.Change (a : AttentionLogic) : Instr → AttentionLogic → Prop where
  | reset {c : Instr} {b : AttentionLogic} : coldResets c = true → a.Change c b
  | grown {c : Instr} {b : AttentionLogic} : a.Grown b → a.Change c b
  | status {b : AttentionLogic} (v : Word32) : b.enable = a.enable → b.capture = a.capture →
      a.Change (.attnStatusWrite v) b
  | enable {b : AttentionLogic} (v : Word32) : b.status = a.status → b.capture = a.capture →
      a.Change (.attnEnableWrite v) b
  | capture {b : AttentionLogic} (v : Word32) : b.status = a.status → b.enable = a.enable →
      a.Change (.faultInfoWrite v) b

/-- Whatever a command makes of the attention, a message is counted exactly when the signal becomes
asserted. -/
theorem State.Effect.attention (h : s.Effect c t) :
    (t.afl.interrupts = s.afl.interrupts
      + if s.afl.signal = false ∧ t.afl.signal = true then 1 else 0) ∧
    AttentionLogic.Change s.afl c t.afl := by
  have hcold (u : State) (hu : u.afl = { AttentionLogic.cold with interrupts := s.afl.interrupts }) :
      u.afl.interrupts
        = s.afl.interrupts + if s.afl.signal = false ∧ u.afl.signal = true then 1 else 0 := by
    simp [hu, AttentionLogic.signal, AttentionLogic.cold]
  have hgrown {c : Instr} {u : State} (hu : s.afl.Grown u.afl) :=
    And.intro hu.interrupts (AttentionLogic.Change.grown (c := c) hu)
  cases h with
  | cold => exact ⟨hcold _ rfl, .reset rfl⟩
  | pinReset => exact ⟨hcold _ rfl, .reset rfl⟩
  | linkReset => exact ⟨hcold _ rfl, .reset rfl⟩
  | statusWritten v =>
    exact ⟨s.afl.update_interrupts _ _, .status v (by simp) (by simp)⟩
  | enableWritten v =>
    exact ⟨s.afl.update_interrupts _ _, .enable v (by simp) (by simp)⟩
  | captureCleared v =>
    exact ⟨(AttentionLogic.Grown.refl s.afl).interrupts, .capture v rfl rfl⟩
  | chain h => exact hgrown h.grown
  | journal h => exact hgrown h.grown
  | routed h => exact hgrown h.grown
  | completed _ _ _ h => exact hgrown (h.grown.trans (AttentionLogic.grown_of_eq (by simp)))
  | restarted =>
    exact hgrown
      (s.restartJournal_grown.trans (AttentionLogic.grown_of_eq (by simp [State.restart])))
  | ticked => exact hgrown s.ticked_grown
  | quietExpired g => exact hgrown (s.monitor_grown g _)
  | overdue => exact hgrown (s.afl.raise_grown .change)
  | anchorLoaded _ data => exact hgrown (s.endFlight.loadAnchor_grown _)
  | _ => exact hgrown (AttentionLogic.grown_of_eq (by simp))

/-! ## O58 -/

theorem AttentionLogic.signal_iff (a : AttentionLogic) :
    a.signal = true ↔ ∃ b, a.status.getLsbD b = true ∧ a.enable.getLsbD b = true := by
  rw [AttentionLogic.signal, bne_iff_ne]
  constructor
  · intro hne
    by_contra hnone
    refine hne (BitVec.eq_of_getLsbD_eq fun n _ => ?_)
    rw [BitVec.getLsbD_and, BitVec.ofNat_eq_ofNat, BitVec.getLsbD_zero]
    exact Bool.eq_false_iff.mpr fun h => hnone ⟨n, Bool.and_eq_true_iff.mp h⟩
  · rintro ⟨n, hstatus, henable⟩ hzero
    have hbit := congrArg (fun x => x.getLsbD n) hzero
    simp [hstatus, henable] at hbit

end

/-- Settles O58: the registers by their updates, and over a command the growth of the attention, split
by the three registers that may clear. -/
theorem attentionAndCaptureAreKept : Obligations.AttentionAndCaptureAreKept := by
  refine ⟨fun a kind agent address f => ⟨rfl, rfl, a.offer_capture .., a.offer_status ..,
      a.offer_enable .., ?offered⟩,
    fun a => ⟨a.raise_status _, a.raise_status _, a.raise_status _, a.raise_status _,
      a.raise_status _, a.raise_status _, fun cause =>
        ⟨a.raise_enable cause, a.raise_capture cause, a.update_interrupts _ _⟩, a.signal_iff⟩,
    fun c s t hrun => ?kept⟩
  case offered =>
    simp only [AttentionLogic.offer, AttentionLogic.raise, AttentionLogic.update_eq,
      AttentionLogic.signal]
    rfl
  case kept =>
    obtain ⟨hcount, hcases⟩ := (exec_effect hrun).attention
    refine ⟨hcount, fun hcold => ?_⟩
    cases hcases with
    | reset hreset =>
      rw [hcold] at hreset
      cases hreset
    | grown h => exact ⟨fun _ => h.status, fun _ => h.enable, fun _ => h.capture⟩
    | status v henable hcapture =>
      exact ⟨fun hc => absurd rfl (hc v), fun _ => henable,
        fun _ f hf => ⟨f.lost, hcapture.trans hf, id⟩⟩
    | enable v hstatus hcapture =>
      exact ⟨fun _ => by rw [hstatus, BitVec.and_self], fun hc => absurd rfl (hc v),
        fun _ f hf => ⟨f.lost, hcapture.trans hf, id⟩⟩
    | capture v hstatus henable =>
      exact ⟨fun _ => by rw [hstatus, BitVec.and_self], fun _ => henable,
        fun hc => absurd rfl (hc v)⟩

end Sys2Proof.Machine
end

section
/-! SUPPORT. What a SEIZE, a CRANKBACK or the end of a fill does to the groups and the contexts: pressure
events and thinning steps, then at most one admission, move or freeing (R99, R105, R113, R114). -/

namespace Sys2Proof.Machine

/-- `P` holds before and while choices are considered, and `Q` after the event; both look at the groups,
the profiles and the contexts alone. -/
structure State.CallSteps (P Q : State → Prop) : Prop where
  congr : ∀ u v : State, v.groups = u.groups → v.profiles = u.profiles → v.ct = u.ct → P u → P v
  congr_after : ∀ u v : State, v.groups = u.groups → v.profiles = u.profiles → v.ct = u.ct →
    Q u → Q v
  stays : ∀ u, P u → Q u
  pressure : ∀ u g, P u → P (u.pressure g)
  thin : ∀ (u : State) g, P u → P (u.setGroup g (u.group g).thin.1)
  admission : ∀ (u : State) p (c : Choice) line quote tier attempts,
    (u.group c.group).busy < (u.group c.group).provisioned → P u →
      Q (u.admitChoice p c line quote tier attempts)
  free : ∀ u i, P u → Q (u.freeContext i)

section CallSteps

variable {P Q : State → Prop} {s t : State}

theorem State.CallSteps.considered (hsteps : State.CallSteps P Q) (h : s.Considered t) (hs : P s) :
    P t := h.keeps hs hsteps.pressure hsteps.thin

theorem State.CallSteps.endCrankback (hsteps : State.CallSteps P Q) (hs : P s) (i : CtxId)
    (code : ResultCode) (attempts : List Attempt) : Q (s.endCrankback i code attempts) :=
  hsteps.congr_after (s.freeContext i) _ (by simp [State.endCrankback])
    (by simp [State.endCrankback]) (by simp [State.endCrankback]) (hsteps.free s i hs)

theorem State.CallSteps.complete (hsteps : State.CallSteps P Q) (hs : P s) (code : ResultCode)
    (fields : List Field) : Q (s.complete code fields) :=
  hsteps.congr_after s _ (by simp) (by simp) (by simp) (hsteps.stays s hs)

theorem State.CallSteps.startFill (hsteps : State.CallSteps P Q) (hs : P s) (tag : Tag)
    (r : Requester) : Q (s.startFill tag r) :=
  hsteps.congr_after s _ rfl rfl rfl (hsteps.stays s hs)

theorem State.CallSteps.walkOn (hsteps : State.CallSteps P Q) (hs : P s) (p : WalkFor)
    (attempts : List Attempt) (choices : List Choice) : Q (s.walkOn p attempts choices) :=
  hsteps.congr_after s _ rfl rfl rfl (hsteps.stays s hs)

theorem State.WalkNext.calls {p : WalkFor} (h : State.WalkNext p s t)
    (hsteps : State.CallSteps P Q) (hs : P s) : Q t := by
  cases h with
  | exhausted attempts =>
    cases p with
    | seize terms => exact hsteps.complete hs _ _
    | crankback i => exact hsteps.endCrankback hs i _ _
  | goesOn attempts choices h => exact hsteps.walkOn (hsteps.considered h hs) _ _ _
  | waits w tag => exact hsteps.startFill hs _ _
  | admitted c line quote tier attempts h hidle =>
    exact hsteps.admission _ _ _ _ _ _ _ hidle (hsteps.considered h hs)

theorem State.SeizeNext.calls (h : s.SeizeNext t) (hsteps : State.CallSteps P Q) (hs : P s) :
    Q t := by
  cases h with
  | refused => exact hsteps.complete hs _ _
  | waits => exact hsteps.startFill hs _ _
  | walks => exact hsteps.walkOn hs _ _ _

theorem State.CrankCellNext.calls (h : s.CrankCellNext t) (hsteps : State.CallSteps P Q)
    (hs : P s) : Q t := by
  cases h with
  | refused => exact hsteps.complete hs _ _
  | limit i => exact hsteps.endCrankback (hsteps.pressure _ _ hs) i _ _
  | walks i _ _ h =>
    cases h with
    | waits => exact hsteps.startFill (hsteps.pressure _ _ hs) _ _
    | walks => exact hsteps.walkOn (hsteps.pressure _ _ hs) _ _ _

theorem Requester.Next.calls {r : Requester} (h : r.Next s t) (hsteps : State.CallSteps P Q)
    (hs : P s) : Q t := by
  cases h with
  | seize _ h => exact h.calls hsteps hs
  | walk _ _ h => exact h.calls hsteps hs
  | freed i => exact hsteps.endCrankback hs i _ _

theorem State.RouteEffect.calls {c : Instr} (h : s.RouteEffect c t) (hsteps : State.CallSteps P Q)
    (hs : P s) : Q t := by
  cases h with
  | seized cell =>
    exact (seizeFirstEvent_next cell s).calls hsteps (hsteps.congr s _ rfl rfl rfl hs)
  | crankedBack cell => exact (crankbackCell_next cell s).calls hsteps hs
  | walked p attempts choices => exact (s.walkEvent_next p attempts choices).calls hsteps hs
  | filled f data =>
    exact (f.requester.onLine_next _ _).calls hsteps (hsteps.congr s _ rfl rfl rfl hs)
  | fillFailed _ kind f =>
    exact (f.requester.onFault_next _).calls hsteps (hsteps.congr s _ rfl rfl rfl hs)

end CallSteps

end Sys2Proof.Machine
end

section
/-! The ranges of groups and profiles over every step (R60, R73, R74, R76, R80): O52. Each event of the
Congestion Monitor keeps the range of one record, and a group gains a circuit only below PROVISIONED. -/

namespace Sys2Proof.Machine

/-! ## The pieces of a record -/

theorem quietWindow_bounds (fi : Option Nat) (decay : Nat) :
    100 ≤ quietWindow fi decay ∧ quietWindow fi decay ≤ 65535 := by
  cases fi with
  | none => exact ⟨show 100 ≤ 65535 by decide, le_rfl⟩
  | some f => exact clamp_bounds (by decide)

theorem pushCapture_length (i : Nat) {history : List Nat} (h : history.length ≤ 8) :
    (pushCapture i history).length ≤ 8 := by
  rw [pushCapture, List.length_append, List.length_singleton, Config.historyLength]
  split
  · rw [List.length_tail]
    omega
  · omega

theorem pushCapture_captures {i : Nat} {history : List Nat} {p : Nat → Prop} (hi : p i)
    (h : ∀ x ∈ history, p x) : ∀ x ∈ pushCapture i history, p x := by
  intro x hx
  simp only [pushCapture, List.mem_append, List.mem_singleton] at hx
  obtain hx | rfl := hx
  · split at hx
    · exact h x (List.mem_of_mem_tail hx)
    · exact h x hx
  · exact hi

theorem captureOf_bounds (last now : Tick) : 1 ≤ captureOf last now ∧ captureOf last now ≤ 65535 :=
  clamp_bounds (by decide)

theorem Control.cold_inRange : Control.cold.InRange := by constructor <;> decide

theorem Group.cold_inRange : Group.cold.InRange where
  provisioned := by decide
  busy := by decide
  control := Control.cold_inRange
  thinning := by decide
  history_length := by decide
  captures := by decide
  window := nofun
  rest _ := ⟨rfl, rfl, rfl, rfl⟩

/-! ## The events of a record -/

section Record

variable {r : Group} {row : Vector Control 4} {now : Tick}

theorem Group.InRange.copyControl (h : r.InRange) {c : Control} (hc : c.InRange) :
    (r.copyControl c).InRange :=
  { h with control := hc, thinning := Nat.zero_le _ }

/-- Any record with the quiet timer running in a good window: the rest of R73 says nothing of it. -/
theorem Group.InRange.running (h : r.InRange) {window : Nat} (hw : 100 ≤ window ∧ window ≤ 65535)
    (level : Level) (tLast holdOffEnd : Option Tick) (change : ChangeFlag) :
    Group.InRange { r with
      level := level, tLast := tLast, holdOffEnd := holdOffEnd, change := change
      quiet := some ⟨window, now⟩ } :=
  { h with
    window := fun _ hq => by cases hq; exact hw
    rest := nofun }

theorem Group.InRange.startQuiet (h : r.InRange) {window : Nat}
    (hw : 100 ≤ window ∧ window ≤ 65535) : (r.startQuiet window now).InRange :=
  h.running hw r.level r.tLast r.holdOffEnd r.change

theorem Group.InRange.capture (h : r.InRange) (last : Tick) : (r.capture last now).InRange :=
  { h with
    history_length := pushCapture_length _ h.history_length
    captures := pushCapture_captures (captureOf_bounds last now) h.captures
    window := fun _ hq => by cases hq; exact quietWindow_bounds _ _
    rest := nofun }

theorem Group.InRange.stepUp (h : r.InRange) (hrow : ∀ l : Level, row[l].InRange) :
    (r.stepUp row now).InRange :=
  (h.copyControl (hrow (levelUp r.level))).running (quietWindow_bounds _ _) _ _ _ _

theorem Group.InRange.adviseUp (h : r.InRange) (hquiet : r.quiet ≠ none) :
    (r.adviseUp now).InRange :=
  { h with rest := fun hq => absurd hq hquiet }

theorem Group.InRange.pressure (h : r.InRange) (hrow : ∀ l : Level, row[l].InRange) :
    (r.pressure row now).1.InRange := by
  have hcounted : Group.InRange { r with pressures := r.pressures + 1 } := { h with }
  cases hhold : r.holdOffEnd with
  | some e =>
    rw [Group.pressure_of_holdOff hhold]
    refine hcounted.running ?_ r.level r.tLast _ r.change
    cases hquiet : r.quiet with
    | none => exact ⟨by decide, le_rfl⟩
    | some q => exact h.window q hquiet
  | none =>
    cases hlast : r.tLast with
    | none =>
      rw [Group.pressure_of_unmeasured hhold hlast]
      exact hcounted.running ⟨by decide, le_rfl⟩ r.level (some now) _ r.change
    | some last =>
      have hcapture := hcounted.capture (now := now) last
      rw [Group.pressure_of_measured hhold hlast row rfl]
      split
      · split
        · exact hcapture.stepUp hrow
        · exact hcapture.adviseUp (Option.some_ne_none _)
      · exact hcapture

theorem Group.InRange.rest_inRange (h : r.InRange) (hlevel : r.level = 0) : r.rest.InRange :=
  { h with
    history_length := Nat.zero_le _
    captures := nofun
    window := nofun
    rest := fun _ => ⟨hlevel, rfl, rfl, rfl⟩ }

theorem Group.InRange.stepDown (h : r.InRange) (hrow : ∀ l : Level, row[l].InRange) :
    (r.stepDown row now).InRange :=
  (h.copyControl (hrow (levelDown r.level))).running (quietWindow_bounds _ _) _ _ _ _

theorem Group.InRange.adviseDown (h : r.InRange) : (r.adviseDown now).InRange :=
  { h with
    window := fun q hq => by
      obtain ⟨q', hq', rfl⟩ := Option.map_eq_some_iff.mp hq
      exact h.window q' hq'
    rest := fun hq => h.rest (Option.map_eq_none_iff.mp hq) }

theorem Group.InRange.quietExpiry (h : r.InRange) (hrow : ∀ l : Level, row[l].InRange) :
    (r.quietExpiry row now).1.InRange := by
  unfold Group.quietExpiry
  split
  case isTrue hlevel => exact h.rest_inRange hlevel
  case isFalse =>
    split
    · exact h.stepDown hrow
    · exact h.adviseDown

theorem Group.InRange.endHoldOff (h : r.InRange) : r.endHoldOff.InRange :=
  { h with rest := fun hq => ⟨(h.rest hq).1, (h.rest hq).2.1, (h.rest hq).2.2.1, rfl⟩ }

theorem Group.InRange.takeExpiries (h : r.InRange) (hrow : ∀ l : Level, row[l].InRange) :
    (r.takeExpiries row now).1.InRange := by
  have hended : (if r.holdOffDue now then r.endHoldOff else r).InRange := by
    split
    · exact h.endHoldOff
    · exact h
  unfold Group.takeExpiries
  simp only
  split
  · exact hended.quietExpiry hrow
  · exact hended

theorem Group.InRange.thin (h : r.InRange) : r.thin.1.InRange := by
  have hgain := h.control.altAdmit
  have hsum := h.thinning
  unfold Group.thin
  simp only
  split
  case isTrue => exact { h with thinning := by simp only; omega }
  case isFalse => exact { h with thinning := by simp only; omega }

theorem GroupRequest.quietAfter_window (q : GroupRequest) (h : r.InRange) {x : QuietTimer}
    (hx : q.quietAfter now r = some x) : 100 ≤ x.window ∧ x.window ≤ 65535 := by
  have hlong : ∀ y : QuietTimer, some ⟨65535, now⟩ = some y → 100 ≤ y.window ∧ y.window ≤ 65535 := by
    intro y hy
    cases hy
    exact ⟨show 100 ≤ 65535 by decide, le_rfl⟩
  unfold GroupRequest.quietAfter at hx
  split at hx
  · split at hx
    · cases hx
    · exact hlong x hx
  · split at hx
    · exact hlong x hx
    · exact h.window x hx

/-- A GROUP_SET leaves the timer stopped only at level 0, and then with the history of a group at rest
(R68, R73). -/
theorem GroupRequest.quietAfter_none (q : GroupRequest) (h : r.InRange)
    (hx : q.quietAfter now r = none) :
    q.level.getD r.level = 0 ∧ (q.resetHistory = true ∨ r.quiet = none) := by
  unfold GroupRequest.quietAfter at hx
  split at hx
  case isTrue hreset =>
    split at hx
    case isTrue hzero => exact ⟨hzero.2, .inl hreset⟩
    case isFalse => cases hx
  case isFalse =>
    split at hx
    case isTrue => cases hx
    case isFalse hkept =>
      refine ⟨?_, .inr hx⟩
      cases hlevel : q.level with
      | none => exact (h.rest hx).1
      | some l => simpa [hlevel, hx] using hkept

theorem Group.InRange.apply (h : r.InRange) (hrow : ∀ l : Level, row[l].InRange) (q : GroupRequest) :
    (q.apply row now r).InRange := by
  rw [GroupRequest.apply_eq]
  constructor
  case provisioned =>
    cases hp : q.provisioned with
    | none => simpa [GroupRequest.setFields, hp] using h.provisioned
    | some v => simp [GroupRequest.setFields, hp]
  case busy => exact h.busy
  case control =>
    simp only
    split
    · exact hrow _
    · exact h.control
  case thinning =>
    simp only
    split
    · exact Nat.zero_le _
    · exact h.thinning
  case history_length =>
    simp only
    split
    · exact Nat.zero_le _
    · exact h.history_length
  case captures =>
    simp only
    split
    · nofun
    · exact h.captures
  case window => exact fun x hx => q.quietAfter_window h hx
  case rest =>
    intro hx
    obtain ⟨hlevel, hreset | hquiet⟩ := q.quietAfter_none h hx
    · exact ⟨hlevel, if_pos hreset, if_pos hreset, if_pos hreset⟩
    · obtain ⟨-, hhistory, hlast, hhold⟩ := h.rest hquiet
      simp only [hhistory, hlast, hhold, ite_self]
      exact ⟨hlevel, trivial, trivial, trivial⟩

end Record

theorem setClamped_bounds {low high old : Nat} (hle : low ≤ high) (hold : low ≤ old ∧ old ≤ high)
    (value : Option Nat) :
    low ≤ setClamped low high value old ∧ setClamped low high value old ≤ high := by
  cases value with
  | none => exact hold
  | some v => exact clamp_bounds hle

theorem Control.InRange.profileAfter {old : Control} (h : old.InRange) (c : FetchedCell) :
    (c.profileAfter old).InRange where
  altAdmit := (setClamped_bounds (Nat.zero_le _) ⟨Nat.zero_le _, h.altAdmit⟩ _).2
  reserve := (setClamped_bounds (Nat.zero_le _) ⟨Nat.zero_le _, h.reserve⟩ _).2
  stepInterval := (setClamped_bounds (Nat.zero_le _) ⟨Nat.zero_le _, h.stepInterval⟩ _).2
  holdOff := (setClamped_bounds (Nat.zero_le _) ⟨Nat.zero_le _, h.holdOff⟩ _).2
  decay := setClamped_bounds (by decide) h.decay _

/-! ## The records of the part -/

section State

variable {s t : State}

theorem State.GroupsInRange.congr (hs : s.GroupsInRange) (hgroups : t.groups = s.groups)
    (hprofiles : t.profiles = s.profiles) : t.GroupsInRange where
  groups g := by rw [State.group_congr hgroups]; exact hs.groups g
  profiles n l := by rw [State.profileRow_congr hprofiles]; exact hs.profiles n l

theorem State.GroupsInRange.setGroup (hs : s.GroupsInRange) {r : Group} (hr : r.InRange)
    (g : GroupId) : (s.setGroup g r).GroupsInRange where
  groups g' := by
    rw [State.setGroup_group]
    split
    · exact hr
    · exact hs.groups g'
  profiles := hs.profiles

theorem State.GroupsInRange.monitor (hs : s.GroupsInRange) {x : Group × Bool} (hx : x.1.InRange)
    (g : GroupId) : (s.monitor g x).GroupsInRange :=
  (hs.setGroup hx g).congr (by rw [State.monitor_eq]; rfl) (by simp)

theorem State.GroupsInRange.pressure (hs : s.GroupsInRange) (g : GroupId) :
    (s.pressure g).GroupsInRange :=
  hs.monitor ((hs.groups g).pressure (hs.profiles _)) g

theorem State.GroupsInRange.claim (hs : s.GroupsInRange) {g : GroupId}
    (hidle : (s.group g).busy < (s.group g).provisioned) : (s.claim g).GroupsInRange := by
  have hclaimed : Group.InRange { s.group g with
      busy := (s.group g).busy + 1, seizes := (s.group g).seizes + 1 } :=
    { hs.groups g with busy := Nat.succ_le_of_lt (hidle.trans_le (hs.groups g).provisioned) }
  exact hs.setGroup hclaimed g

theorem State.GroupsInRange.unclaim (hs : s.GroupsInRange) (g : GroupId) :
    (s.unclaim g).GroupsInRange := by
  have hunclaimed : Group.InRange { s.group g with busy := (s.group g).busy - 1 } :=
    { hs.groups g with busy := (Nat.sub_le _ _).trans (hs.groups g).busy }
  exact hs.setGroup hunclaimed g

theorem State.GroupsInRange.freeContext (hs : s.GroupsInRange) (i : CtxId) :
    (s.freeContext i).GroupsInRange := by
  unfold State.freeContext
  simp only
  split
  · have hset : ((s.setContext i (s.context i).freed).setFifo (s.ct.freeFifo ++ [i])).GroupsInRange :=
      hs.congr rfl rfl
    exact hset.unclaim _
  · exact hs

theorem State.GroupsInRange.moveContext (hs : s.GroupsInRange) (i : CtxId) {c : Choice}
    (hidle : (s.group c.group).busy < (s.group c.group).provisioned) (line : TariffLine)
    (quote : Nat) (tier : Tier) : (s.moveContext i c line quote tier).GroupsInRange := by
  by_cases hlive : (s.context i).live = true
  · rw [State.moveContext_of_live c line quote tier hlive]
    have hset (x : Context) : (s.setContext i x).GroupsInRange := hs.congr rfl rfl
    refine ((hset _).unclaim _).claim ?_
    rw [State.unclaim_group, State.setContext_group, State.setContext_group]
    split
    case isTrue hsame =>
      rw [hsame]
      exact (Nat.sub_le _ _).trans_lt hidle
    case isFalse => exact hidle
  · unfold State.moveContext
    simp only
    rw [if_neg hlive]
    exact hs

theorem State.GroupsInRange.admitChoice (hs : s.GroupsInRange) (p : WalkFor) {c : Choice}
    (hidle : (s.group c.group).busy < (s.group c.group).provisioned) (line : TariffLine)
    (quote : Nat) (tier : Tier) (attempts : List Attempt) :
    (s.admitChoice p c line quote tier attempts).GroupsInRange := by
  cases p with
  | seize terms =>
    simp only [State.admitChoice, State.admitSeizure]
    split
    · exact hs.congr (by simp) (by simp)
    · refine State.GroupsInRange.congr (State.GroupsInRange.claim (g := c.group) ?_ hidle)
        (State.complete_groups ..) (State.complete_profiles ..)
      exact hs.congr rfl rfl
  | crankback i =>
    exact (hs.moveContext i hidle line quote tier).congr (State.complete_groups ..)
      (State.complete_profiles ..)

theorem groupsInRange_callSteps : State.CallSteps State.GroupsInRange State.GroupsInRange where
  congr _ _ hgroups hprofiles _ hs := hs.congr hgroups hprofiles
  congr_after _ _ hgroups hprofiles _ hs := hs.congr hgroups hprofiles
  stays _ hs := hs
  pressure _ g hs := hs.pressure g
  thin _ g hs := hs.setGroup (hs.groups g).thin g
  admission _ p _ line quote tier attempts hidle hs := hs.admitChoice p hidle line quote tier attempts
  free _ i hs := hs.freeContext i

theorem State.GroupsInRange.clearChanges (taken : List Change) (hs : s.GroupsInRange) :
    (taken.foldl State.clearChange s).GroupsInRange := by
  induction taken generalizing s with
  | nil => exact hs
  | cons x rest ih =>
    refine ih ?_
    cases x with
    | group g =>
      have hcleared : Group.InRange { s.group g with change := .none } := { hs.groups g with }
      exact hs.setGroup hcleared g
    | context i => exact hs.congr rfl rfl

theorem State.GroupsInRange.setProfile (hs : s.GroupsInRange) {c : Control} (hc : c.InRange)
    (n : SetId) (l : Level) : (s.setProfile n l c).GroupsInRange where
  groups := hs.groups
  profiles m k := by
    rw [State.setProfile_profileRow]
    split
    · rw [Fin.getElem_fin, Vector.getElem_set]
      split
      · exact hc
      · exact hs.profiles n k
    · exact hs.profiles m k

theorem State.RequestChange.groupsInRange {u : State} {k : RequestKind} (h : s.RequestChange k u)
    (hs : s.GroupsInRange) : u.GroupsInRange := by
  cases h with
  | group q => exact hs.setGroup ((hs.groups _).apply (hs.profiles _) q) _
  | profile cell n l => exact hs.setProfile ((hs.profiles n l).profileAfter cell) n l
  | reported => exact hs.clearChanges _
  | released i far =>
    cases far with
    | false => exact hs.freeContext i
    | true => exact (hs.pressure _).freeContext i
  | charged r => exact State.GroupsInRange.freeContext (hs.congr (by simp) (by simp)) r.ctx
  | _ => exact hs.congr (by simp) (by simp)

theorem State.GroupsInRange.takeGroupExpiries (hs : s.GroupsInRange) :
    s.takeGroupExpiries.GroupsInRange where
  groups g := by
    rw [State.takeGroupExpiries_group]
    exact (hs.groups g).takeExpiries (hs.profiles _)
  profiles n l := by
    rw [State.profileRow_congr (s := s) (by simp)]
    exact hs.profiles n l

theorem State.coldReset_groupsInRange (s : State) : s.coldReset.GroupsInRange where
  groups g := by
    rw [State.group, Fin.getElem_fin]
    exact (Vector.getElem_replicate g.isLt).symm ▸ Group.cold_inRange
  profiles n l := by
    have hcold : (s.coldReset.profileRow n)[l] = Control.cold := by
      simp [State.profileRow, State.coldReset, State.reset]
    exact hcold ▸ Control.cold_inRange

theorem State.Effect.groupsInRange {c : Instr} (h : s.Effect c t) (hs : s.GroupsInRange) :
    t.GroupsInRange := by
  cases h with
  | chain h => exact hs.congr h.frame.groups h.frame.profiles
  | journal h => exact hs.congr h.frame.groups h.frame.profiles
  | routed h => exact h.calls groupsInRange_callSteps hs
  | completed _ _ _ h => exact (h.groupsInRange hs).congr (by simp) (by simp)
  | releaseResumed r _ _ hfree =>
    exact ((State.RequestChange.charged r hfree).groupsInRange hs).congr (by simp) (by simp)
  | cold => exact s.coldReset_groupsInRange
  | pinReset => exact s.coldReset_groupsInRange.congr rfl rfl
  | linkReset => exact s.coldReset_groupsInRange.congr rfl rfl
  | ticked => exact hs.takeGroupExpiries.congr (by simp) (by simp)
  | quietExpired g => exact hs.monitor ((hs.groups g).quietExpiry (hs.profiles _)) g
  | holdOffEnded g => exact hs.setGroup (hs.groups g).endHoldOff g
  | _ => exact hs.congr (by simp) (by simp)

end State

/-- Settles O52: each event of the Congestion Monitor, a GROUP_SET and a PROFILE_SET keep the ranges of
their record, and a circuit is claimed only where one is idle. -/
theorem groupsStayInRange : Obligations.GroupsStayInRange :=
  step_keeps (fun _ _ hs => hs.congr rfl rfl) fun _ _ _ h => h.groupsInRange

end Sys2Proof.Machine
end

section
/-! Agreements and accounts over every step (R132, R140, R142, R149): O53. -/

namespace Sys2Proof.Machine

/-! ## Agreements (R132, R137, R140) -/

theorem FetchedCell.operand_lt (c : FetchedCell) (offset width : Nat) :
    c.operand offset width < 256 ^ width := leNat_lt _ _ _

/-- What the operand widths and the mask checks say of an AGREE_SET that is not BAD_OPERAND (R135). -/
structure AgreeRequest.InRange (r : AgreeRequest) : Prop where
  premium : ∀ v, r.premium = some v → ∀ t : Tier, v[t] ≤ 255
  creditLimit : ∀ v, r.creditLimit = some v → v ≤ 2 ^ 48 - 1
  override : r.overrideSet.getLsbD 0 = false

theorem FetchedCell.agreeRequest_inRange {c : FetchedCell} {r : AgreeRequest}
    (h : c.agreeRequest = some r) : r.InRange := by
  unfold FetchedCell.agreeRequest at h
  simp only at h
  split at h
  case isFalse => cases h
  case isTrue hmasks =>
    split at h
    case h_2 => cases h
    case h_1 =>
      cases h
      constructor
      case premium =>
        intro v hv t
        obtain ⟨-, hv⟩ := Option.ite_none_right_eq_some.mp hv
        cases hv
        have hbyte := c.operand_lt (26 + t) 1
        rw [Fin.getElem_fin, tabulate_getElem]
        omega
      case creditLimit =>
        intro v hv
        obtain ⟨-, hv⟩ := Option.ite_none_right_eq_some.mp hv
        cases hv
        have hbytes := c.operand_lt 32 6
        omega
      case override =>
        simp only [agreeMasksGood, Bool.and_eq_true, Bool.not_eq_true'] at hmasks
        obtain ⟨⟨⟨⟨-, hactive⟩, -⟩, -⟩, -⟩ := hmasks
        rw [BitVec.getLsbD_ofNat, hactive, Bool.and_false]

section Agreement

variable {a : Agreement}

theorem Agreement.cold_inRange : Agreement.cold.InRange where
  minSeconds := by decide
  increment := by decide
  premium t := by
    have hcold : Agreement.cold.premium[t] = 128 := by simp [Agreement.cold]
    omega
  creditLimit := by decide
  active_not_overridden := by decide

theorem Agreement.InRange.apply (h : a.InRange) {r : AgreeRequest} (hr : r.InRange) :
    (r.apply a).InRange where
  minSeconds := by
    cases hm : r.minSeconds with
    | none => simpa [AgreeRequest.apply, hm] using h.minSeconds
    | some v => simp [AgreeRequest.apply, hm]
  increment := by
    cases hi : r.increment with
    | none => simpa [AgreeRequest.apply, hi] using h.increment
    | some v => simpa [AgreeRequest.apply, hi] using clamp_bounds (x := v) (show 1 ≤ 60 by decide)
  premium t := by
    cases hp : r.premium with
    | none => simpa [AgreeRequest.apply, hp] using h.premium t
    | some v =>
      have hv := hr.premium v hp t
      simp only [AgreeRequest.apply, hp, Option.map_some, Option.getD_some, Fin.getElem_fin,
        mapEntries_getElem] at hv ⊢
      omega
  creditLimit := by
    cases hc : r.creditLimit with
    | none => simpa [AgreeRequest.apply, hc] using h.creditLimit
    | some v => simpa [AgreeRequest.apply, hc] using hr.creditLimit v hc
  active_not_overridden := by
    rw [AgreeRequest.apply, BitVec.getLsbD_and, BitVec.getLsbD_or, h.active_not_overridden,
      hr.override]
    rfl

theorem Agreement.InRange.setFixed (h : a.InRange) (fixed : TermBits) :
    Agreement.InRange { a with fixed := fixed } := { h with }

end Agreement

theorem AgreementTable.setFixed_getElem (fixed : TermBits) (x : AgreementTable) (c : CarrierId) :
    (x.setFixed fixed).agreements[c] = { x.agreements[c] with fixed := fixed } :=
  mapEntries_getElem _ x.agreements c.val c.isLt

section State

variable {s t : State}

theorem State.AgreementsSound.congr (hs : s.AgreementsSound) (h : t.agr = s.agr) :
    t.AgreementsSound where
  ranges c := by rw [State.agreement_congr h]; exact hs.ranges c
  frozen hforce c := by
    rw [h] at hforce
    rw [State.agreement_congr h]
    exact hs.frozen hforce c

theorem State.AgreementsSound.setAgreement (hs : s.AgreementsSound) {r : AgreeRequest}
    (hr : r.InRange) :
    (s.setAgreement r.carrier (r.apply (s.agreement r.carrier))).AgreementsSound where
  ranges c := by
    rw [State.setAgreement_agreement]
    split
    · exact (hs.ranges _).apply hr
    · exact hs.ranges c
  frozen hforce c := by
    rw [State.setAgreement_agreement]
    split
    · exact (congrArg (· ||| r.fixMask) (hs.frozen hforce _)).trans BitVec.allOnes_or
    · exact hs.frozen hforce c

/-- At a close every fixed flag takes one value, all ones where the freeze comes into force (R140). -/
theorem State.AgreementsSound.close (hs : s.AgreementsSound) :
    State.AgreementsSound { s with agr := s.agr.close } := by
  have hset (fixed : TermBits) (c : CarrierId) :
      ((s.agr.setFixed fixed).agreements[c]).InRange := by
    rw [AgreementTable.setFixed_getElem]
    exact (hs.ranges c).setFixed fixed
  cases hforce : s.agr.freezeInForce with
  | true =>
    have hclose : s.agr.close = { s.agr with freezePending := false } := by
      simp [AgreementTable.close, hforce]
    rw [hclose]
    exact ⟨hs.ranges, fun _ => hs.frozen hforce⟩
  | false =>
    cases hpending : s.agr.freezePending with
    | true =>
      have hclose : s.agr.close =
          { s.agr.setFixed 0b111111 with freezeInForce := true, freezePending := false } := by
        simp [AgreementTable.close, hforce, hpending]
      rw [hclose]
      exact ⟨hset _, fun _ c => congrArg Agreement.fixed (AgreementTable.setFixed_getElem _ s.agr c)⟩
    | false =>
      have hclose : s.agr.close = s.agr.setFixed 0 := by
        simp [AgreementTable.close, hforce, hpending]
      rw [hclose]
      refine ⟨hset _, fun hnow => absurd (hforce.symm.trans hnow) Bool.false_ne_true⟩

theorem State.closeEvent_agr (s : State) : s.closeEvent.agr = s.agr.close := by
  simp [State.closeEvent]

theorem State.agreeSet_agr (s : State) (r : AgreeRequest) : (s.agreeSet r).agr =
    (s.setAgreement r.carrier (r.apply (s.agreement r.carrier))).agr := by
  unfold State.agreeSet
  simp only
  split
  · rfl
  · simp

theorem State.RequestChange.agreementsSound {u : State} {k : RequestKind}
    (h : s.RequestChange k u) (hs : s.AgreementsSound) : u.AgreementsSound := by
  cases h with
  | agreement cell r hr =>
    exact (hs.setAgreement (cell.agreeRequest_inRange hr)).congr (s.agreeSet_agr r)
  | freeze => exact ⟨hs.ranges, hs.frozen⟩
  | closed => exact hs.close.congr s.closeEvent_agr
  | reported => exact hs.congr (by rw [State.clearChanges_eq])
  | released i far => cases far <;> exact hs.congr (by simp)
  | _ => exact hs.congr (by simp)

theorem State.coldReset_agreementsSound (s : State) : s.coldReset.AgreementsSound where
  ranges c := by
    have hcold : s.coldReset.agreement c = Agreement.cold := by
      simp [State.agreement, State.coldReset, State.reset, AgreementTable.cold]
    exact hcold ▸ Agreement.cold_inRange
  frozen := nofun

theorem State.Effect.agreementsSound {c : Instr} (h : s.Effect c t) (hs : s.AgreementsSound) :
    t.AgreementsSound := by
  cases h with
  | chain h => exact hs.congr h.frame.agr
  | journal h => exact hs.congr h.frame.agr
  | routed h => exact hs.congr h.frame.agr
  | completed _ _ _ h => exact (h.agreementsSound hs).congr (by simp)
  | closeResumed _ _ hready =>
    exact ((State.RequestChange.closed hready).agreementsSound hs).congr (by simp)
  | cold => exact s.coldReset_agreementsSound
  | pinReset => exact s.coldReset_agreementsSound.congr rfl
  | linkReset => exact s.coldReset_agreementsSound.congr rfl
  | _ => exact hs.congr (by simp)

end State

/-! ## Accounts and the snapshot (R142, R149, R155) -/

theorem Account.zero_inRange : Account.zero.InRange := by constructor <;> decide

section Snapshot

variable {s t u : State}

/-- The snapshot stands or has become free. -/
def State.SnapshotKept (s t : State) : Prop :=
  t.jw.snapshot = s.jw.snapshot ∨ t.jw.snapshot = none

theorem State.SnapshotKept.of_eq (h : t.jw.snapshot = s.jw.snapshot) : s.SnapshotKept t := .inl h

theorem State.SnapshotKept.trans (h : s.SnapshotKept t) (k : t.SnapshotKept u) :
    s.SnapshotKept u := by
  obtain hu | hu := k
  · obtain ht | ht := h
    · exact .inl (hu.trans ht)
    · exact .inr (hu.trans ht)
  · exact .inr hu

theorem State.openPage_snapshot (s : State) (reread : Bool) :
    (s.openPage reread).jw.snapshot = s.jw.snapshot := by
  rw [State.openPage_eq]
  simp

theorem State.enterPage_snapshot (s : State) (page : Addr) :
    (s.enterPage page).jw.snapshot = s.jw.snapshot := by
  unfold State.enterPage
  rw [State.journalAdvance_snapshot]
  simp [State.enterJournal]

theorem State.waitForPage_snapshot (s : State) (reread : Bool) :
    (s.waitForPage reread).jw.snapshot = s.jw.snapshot := by
  unfold State.waitForPage
  cases reread <;> simp only [Bool.false_eq_true, if_true, if_false] <;> split <;>
    simp [State.openPage_snapshot, State.enterJournal]

theorem State.afterCount_snapshot (s : State) (k : RecordKind) :
    (s.afterCount k).jw.snapshot = s.jw.snapshot := by
  unfold State.afterCount
  split
  case h_1 =>
    split
    · rfl
    · exact s.journalAdvance_snapshot
  case h_2 =>
    split
    · exact State.journalAdvance_snapshot _
    · simp only
      split
      · rfl
      · exact State.journalAdvance_snapshot _

theorem State.recordCounted_snapshot (s : State) (k : RecordKind) :
    (s.recordCounted k).jw.snapshot = s.jw.snapshot := by cases k <;> rfl

theorem State.finishClose_snapshotKept (s : State) (periodEnd : Bool) :
    s.SnapshotKept (s.finishClose periodEnd) := by
  cases periodEnd with
  | false => exact .inl rfl
  | true => exact .inr rfl

theorem State.finishCloseOf_snapshotKept (s : State) (f : Option JournalFlight) :
    s.SnapshotKept (s.finishCloseOf f) := by
  unfold State.finishCloseOf
  split
  · exact s.finishClose_snapshotKept _
  · exact .inl rfl

theorem State.openAfterClose_snapshot (s : State) :
    s.openAfterClose.jw.snapshot = s.jw.snapshot := by
  unfold State.openAfterClose
  simp only
  split
  · exact State.enterPage_snapshot _ _
  · exact State.openPage_snapshot _ _

theorem State.restartJournal_snapshotKept (s : State) : s.SnapshotKept s.restartJournal := by
  rw [State.restartJournal_eq]
  refine (s.finishCloseOf_snapshotKept s.jw.flight).trans (.of_eq ?_)
  rw [State.settlePoll_jw]

theorem State.journalFault_snapshotKept (s : State) (kind : FaultKind) (f : JournalFlight) :
    s.SnapshotKept (s.journalFault kind f) := by
  have hoffered : s.SnapshotKept (s.offerFault kind .journal f.access.base) := .inl rfl
  rw [State.journalFault_eq]
  refine (hoffered.trans (State.finishCloseOf_snapshotKept _ (some f))).trans (.of_eq ?_)
  rw [State.settlePoll_jw]

theorem State.startJournal_snapshot (s : State) :
    s.startJournal.jw.snapshot = s.jw.snapshot := by
  unfold State.startJournal
  split
  case h_1 => exact State.openPage_snapshot _ _
  case h_2 => exact State.openPage_snapshot _ _
  case h_3 => rfl
  case h_4 => rfl
  case h_5 => rfl

theorem State.nudgeJournal_snapshot (s : State) :
    s.nudgeJournal.jw.snapshot = s.jw.snapshot := by
  unfold State.nudgeJournal
  split
  case h_1 => exact State.openPage_snapshot _ _
  case h_2 => rfl
  case h_3 => rfl
  case h_4 => rfl
  case h_5 => rfl

theorem State.reopenJournal_snapshotKept (s : State) : s.SnapshotKept s.reopenJournal := by
  rw [State.reopenJournal_eq]
  exact s.restartJournal_snapshotKept.trans (.of_eq (State.openPage_snapshot _ _))

theorem State.pollExpiry_snapshot (s : State) : s.pollExpiry.jw.snapshot = s.jw.snapshot := by
  have hread (v : State) : (if s.cc.state = .waiting then v.readLink else v).jw = v.jw := by
    split
    · simp
    · rfl
  unfold State.pollExpiry
  simp only
  split
  · rw [State.openPage_snapshot, hread]
  · rw [hread]

theorem State.placeHold_snapshot (s : State) (e : HoldEntry) :
    (s.placeHold e).jw.snapshot = s.jw.snapshot := State.journalAdvance_snapshot _

theorem State.JournalEffect.snapshotKept {c : Instr} (h : s.JournalEffect c t) :
    s.SnapshotKept t := by
  cases h with
  | pageOpened => exact .of_eq (State.enterPage_snapshot _ _)
  | pageAwaited => exact .of_eq (State.waitForPage_snapshot _ _)
  | recordWritten => exact .of_eq rfl
  | countWritten k =>
    exact .of_eq ((State.afterCount_snapshot _ k).trans (State.recordCounted_snapshot _ k))
  | prefetched => exact .of_eq (State.journalAdvance_snapshot _)
  | headerWritten => exact .of_eq rfl
  | mapCleared => exact .of_eq rfl
  | closed periodEnd =>
    exact (s.finishClose_snapshotKept periodEnd).trans (.of_eq (State.openAfterClose_snapshot _))
  | faulted _ kind f => exact s.journalFault_snapshotKept kind f
  | abandonedReported => exact .of_eq rfl

end Snapshot

section Accounts

variable {s t : State}

theorem State.AccountsInRange.congr (hs : s.AccountsInRange) (hru : t.ru = s.ru)
    (hsnapshot : s.SnapshotKept t) : t.AccountsInRange where
  open_period c := by rw [State.account_congr hru]; exact hs.open_period c
  snapshot p hp c := by
    obtain hkept | hfree := hsnapshot
    · exact hs.snapshot p (hkept ▸ hp) c
    · rw [hfree] at hp
      cases hp

theorem State.AccountsInRange.accumulate (hs : s.AccountsInRange) (r : ChargeRecord) :
    (s.accumulate r).AccountsInRange where
  open_period c := by
    have hc := hs.open_period c
    rw [State.accumulate_account]
    split
    · exact Account.addIn_inRange (Account.addOut_inRange hc _ _) _ _
    · split
      · exact Account.addOut_inRange hc _ _
      · split
        · exact Account.addIn_inRange hc _ _
        · exact hc
  snapshot p hp := hs.snapshot p (by simpa using hp)

theorem State.AccountsInRange.chargeEvent (hs : s.AccountsInRange) (r : PendingRelease) :
    (s.chargeEvent r).AccountsInRange := by
  refine (hs.accumulate ((s.context r.ctx).charge r.ctx r)).congr ?_ (.of_eq ?_)
  · simp [State.chargeEvent]
  · simp [State.chargeEvent, State.placeHold_snapshot]

/-- The close event takes the accounts into the snapshot and zeroes them (R153). -/
theorem State.AccountsInRange.closeEvent (hs : s.AccountsInRange) :
    s.closeEvent.AccountsInRange where
  open_period c := by
    have hzero : s.closeEvent.account c = Account.zero := by
      simp [State.account, State.closeEvent]
    exact hzero ▸ Account.zero_inRange
  snapshot p hp c := by
    rw [State.closeEvent, State.placeHold_snapshot] at hp
    cases hp
    exact hs.open_period c

theorem State.RequestChange.accountsInRange {u : State} {k : RequestKind}
    (h : s.RequestChange k u) (hs : s.AccountsInRange) : u.AccountsInRange := by
  cases h with
  | charged r => exact hs.chargeEvent r
  | closed => exact hs.closeEvent
  | reported =>
    rw [State.clearChanges_eq]
    exact hs.congr rfl (.of_eq rfl)
  | released i far => cases far <;> exact hs.congr (by simp) (.of_eq (by simp))
  | _ => exact hs.congr (by simp) (.of_eq (by simp))

theorem State.coldReset_accountsInRange (s : State) : s.coldReset.AccountsInRange where
  open_period c := by
    have hcold : s.coldReset.account c = Account.zero := by
      simp [State.account, State.coldReset, State.reset, RatingUnit.cold]
    exact hcold ▸ Account.zero_inRange
  snapshot := nofun

theorem State.restart_snapshotKept (s : State) : s.SnapshotKept s.restart :=
  s.restartJournal_snapshotKept.trans (.of_eq (by simp [State.restart]))

theorem State.loadAnchor_snapshotKept (s : State) (f : AnchorFields) :
    s.SnapshotKept (s.loadAnchor f) :=
  (State.reopenJournal_snapshotKept (State.flush
    { s with cc := { s.cc with anchor := f }, tb := { s.tb with pollCounter := 0 } })).trans
    (.of_eq (by simp [State.loadAnchor]))

theorem State.Effect.accountsInRange {c : Instr} (h : s.Effect c t) (hs : s.AccountsInRange) :
    t.AccountsInRange := by
  cases h with
  | chain h => exact hs.congr h.frame.ru (.of_eq (by rw [h.frame.jw]))
  | journal h => exact hs.congr h.frame.ru h.snapshotKept
  | routed h => exact hs.congr h.frame.ru (.of_eq (by rw [h.frame.jw]))
  | completed _ _ _ h => exact (h.accountsInRange hs).congr (by simp) (.of_eq (by simp))
  | releaseResumed r => exact (hs.chargeEvent r).congr (by simp) (.of_eq (by simp))
  | closeResumed => exact hs.closeEvent.congr (by simp) (.of_eq (by simp))
  | started => exact hs.congr (by simp) (.of_eq (by simp [State.startJournal_snapshot]))
  | restarted => exact hs.congr (by simp) s.restart_snapshotKept
  | nudged => exact hs.congr (by simp) (.of_eq (by simp [State.nudgeJournal_snapshot]))
  | pollExpired => exact hs.congr (by simp) (.of_eq s.pollExpiry_snapshot)
  | anchorLoaded => exact hs.congr (by simp) (State.loadAnchor_snapshotKept s.endFlight _)
  | cold => exact s.coldReset_accountsInRange
  | pinReset => exact s.coldReset_accountsInRange.congr rfl (.of_eq rfl)
  | linkReset => exact s.coldReset_accountsInRange.congr rfl (.of_eq rfl)
  | _ => exact hs.congr (by simp) (.of_eq (by simp))

end Accounts

/-- Settles O53: an AGREE_SET clamps what it writes and only adds fixed flags, a close sets them all
alike, and every addition to a total saturates. -/
theorem agreementsAndAccountsStaySound : Obligations.AgreementsAndAccountsStaySound :=
  ⟨step_keeps (fun _ _ hs => hs.congr rfl) fun _ _ _ h => h.agreementsSound,
    step_keeps (fun _ _ hs => hs.congr rfl (.of_eq rfl)) fun _ _ _ h => h.accountsInRange⟩

end Sys2Proof.Machine
end

section
/-! The Journal Writer over every step (R157, R158, R161 to R165): the first part of O54. What JW keeps
and what it has in flight are two predicates, each kept by every operation of JW. -/

namespace Sys2Proof.Machine

/-! ## Two predicates for the two of the statement -/

/-- What JW keeps, whatever is in flight. -/
structure JournalWriter.DataSound (j : JournalWriter) : Prop where
  room : j.hold.length ≤ 32
  snapshot : j.hold.countP HoldEntry.isPeriodEnd = if j.snapshot.isSome then 1 else 0
  close : j.close = .periodEnd → j.atPeriodEnd = true
  slot : 1 ≤ j.slot ∧ j.slot ≤ 63
  cursor : j.cursor.carrier ≤ 64

/-- What an access in flight says of JW. -/
def JournalOp.Fits (j : JournalWriter) : JournalOp → Prop
  | .opening _ => j.state = .opening
  | .prefetch => j.state = .running
  | .record k => j.state = .running ∧ (k = .summary → j.cursor.carrier ≤ 63)
  | .count k => j.state = .running ∧ (k = .summary → j.cursor.carrier ≤ 63)
  | .header => j.state = .running
  | .mapClear => j.state = .running
  | .engineWrite b => j.state = .running ∧ j.close = .none ∧ (b = true → j.atPeriodEnd = true)

/-- What is in flight fits JW, and with nothing in flight JW is at rest. -/
def JournalWriter.FlightSound (j : JournalWriter) : Prop :=
  match j.flight with
  | none => j.state ≠ .opening ∧ (j.state = .running → j.close = .none ∧ j.hold = [])
  | some f => f.op.Fits j

/-- Both predicates. -/
structure JournalWriter.Sound (j : JournalWriter) : Prop where
  data : j.DataSound
  flight : j.FlightSound

section Equivalence

variable {j : JournalWriter}

theorem JournalWriter.flightSound_of_none (hf : j.flight = none) :
    j.FlightSound ↔ j.state ≠ .opening ∧ (j.state = .running → j.close = .none ∧ j.hold = []) := by
  simp [FlightSound, hf]

theorem JournalWriter.flightSound_of_some {f : JournalFlight} (hf : j.flight = some f) :
    j.FlightSound ↔ f.op.Fits j := by simp [FlightSound, hf]

theorem JournalOp.Fits.active {op : JournalOp} (h : op.Fits j) :
    j.state = .opening ∨ j.state = .running := by
  cases op with
  | opening => exact .inl h
  | prefetch => exact .inr h
  | record => exact .inr h.1
  | count => exact .inr h.1
  | header => exact .inr h
  | mapClear => exact .inr h
  | engineWrite => exact .inr h.1

theorem JournalOp.Fits.opening_iff {op : JournalOp} (h : op.Fits j) :
    j.state = .opening ↔ ∃ b, op = .opening b := by
  cases op with
  | opening b => exact iff_of_true h ⟨b, rfl⟩
  | prefetch => exact iff_of_false (by simp [show j.state = .running from h]) (by simp)
  | record => exact iff_of_false (by simp [h.1]) (by simp)
  | count => exact iff_of_false (by simp [h.1]) (by simp)
  | header => exact iff_of_false (by simp [show j.state = .running from h]) (by simp)
  | mapClear => exact iff_of_false (by simp [show j.state = .running from h]) (by simp)
  | engineWrite => exact iff_of_false (by simp [h.1]) (by simp)

theorem JournalWriter.Sound.holdSound (h : j.Sound) : j.HoldSound where
  room := h.data.room
  snapshot := h.data.snapshot
  close := h.data.close
  engine_write b hop := by
    obtain ⟨f, hf, hop⟩ := Option.map_eq_some_iff.mp hop
    have hfits := (JournalWriter.flightSound_of_some hf).mp h.flight
    rw [hop] at hfits
    exact hfits.2.1
  last_step hop := by
    obtain ⟨f, hf, hop⟩ := Option.map_eq_some_iff.mp hop
    have hfits := (JournalWriter.flightSound_of_some hf).mp h.flight
    rw [hop] at hfits
    exact hfits.2.2 rfl

theorem JournalWriter.Sound.shapeSound (h : j.Sound) : j.ShapeSound where
  stopped hstate := by
    cases hf : j.flight with
    | none => rfl
    | some f =>
      obtain hnow | hnow := ((JournalWriter.flightSound_of_some hf).mp h.flight).active <;>
        simp [hnow] at hstate
  opening hstate := by
    cases hf : j.flight with
    | none => exact absurd hstate ((JournalWriter.flightSound_of_none hf).mp h.flight).1
    | some f =>
      obtain ⟨b, hop⟩ := ((JournalWriter.flightSound_of_some hf).mp h.flight).opening_iff.mp hstate
      exact ⟨b, by simp [flightOp, hf, hop]⟩
  running hstate b hop := by
    obtain ⟨f, hf, hop⟩ := Option.map_eq_some_iff.mp hop
    have hopening := ((JournalWriter.flightSound_of_some hf).mp h.flight).opening_iff.mpr ⟨b, hop⟩
    rw [hstate] at hopening
    cases hopening
  waits hstate hf := ((JournalWriter.flightSound_of_none hf).mp h.flight).2 hstate
  slot := h.data.slot
  cursor := h.data.cursor
  summary hop := by
    obtain hop | hop := hop <;> obtain ⟨f, hf, hop⟩ := Option.map_eq_some_iff.mp hop <;>
      have hfits := (JournalWriter.flightSound_of_some hf).mp h.flight <;> rw [hop] at hfits <;>
      exact hfits.2 rfl

theorem JournalWriter.ShapeSound.running_of_flight (h : j.ShapeSound) {f : JournalFlight}
    (hf : j.flight = some f) (hop : ∀ b, f.op ≠ .opening b) : j.state = .running := by
  have hstop (hstate : j.state = .idle ∨ j.state = .waitingPage ∨ j.state = .faulted) : False := by
    have hnone := h.stopped hstate
    rw [hf] at hnone
    cases hnone
  cases hstate : j.state with
  | idle => exact (hstop (.inl hstate)).elim
  | waitingPage => exact (hstop (.inr (.inl hstate))).elim
  | faulted => exact (hstop (.inr (.inr hstate))).elim
  | running => rfl
  | opening =>
    obtain ⟨b, hb⟩ := h.opening hstate
    simp only [flightOp, hf, Option.map_some, Option.some.injEq] at hb
    exact absurd hb (hop b)

theorem JournalWriter.sound_of (hhold : j.HoldSound) (hshape : j.ShapeSound) : j.Sound where
  data := ⟨hhold.room, hhold.snapshot, hhold.close, hshape.slot, hshape.cursor⟩
  flight := by
    cases hf : j.flight with
    | none =>
      refine (JournalWriter.flightSound_of_none hf).mpr ⟨fun hstate => ?_, fun hstate => ?_⟩
      · obtain ⟨b, hb⟩ := hshape.opening hstate
        simp [flightOp, hf] at hb
      · exact hshape.waits hstate hf
    | some f =>
      have hop : j.flightOp = some f.op := by simp [flightOp, hf]
      refine (JournalWriter.flightSound_of_some hf).mpr ?_
      have hrunning := hshape.running_of_flight hf
      cases hcase : f.op with
      | opening b =>
        cases hstate : j.state with
        | opening => exact hstate
        | running => exact absurd (hop.trans (congrArg some hcase)) (hshape.running hstate b)
        | idle => exact absurd (hshape.stopped (.inl hstate)) (by simp [hf])
        | waitingPage => exact absurd (hshape.stopped (.inr (.inl hstate))) (by simp [hf])
        | faulted => exact absurd (hshape.stopped (.inr (.inr hstate))) (by simp [hf])
      | prefetch => exact hrunning (by simp [hcase])
      | header => exact hrunning (by simp [hcase])
      | mapClear => exact hrunning (by simp [hcase])
      | record k =>
        refine ⟨hrunning (by simp [hcase]), ?_⟩
        rintro rfl
        exact hshape.summary (.inl (hop.trans (congrArg some hcase)))
      | count k =>
        refine ⟨hrunning (by simp [hcase]), ?_⟩
        rintro rfl
        exact hshape.summary (.inr (hop.trans (congrArg some hcase)))
      | engineWrite b =>
        refine ⟨hrunning (by simp [hcase]), hhold.engine_write b (hop.trans (congrArg some hcase)), ?_⟩
        rintro rfl
        exact hhold.last_step (hop.trans (congrArg some hcase))

end Equivalence

/-! ## What the operations do to the two -/

section Data

variable {j : JournalWriter}

theorem JournalWriter.DataSound.congr {k : JournalWriter} (h : j.DataSound)
    (hhold : k.hold = j.hold) (hsnapshot : k.snapshot = j.snapshot) (hclose : k.close = j.close)
    (hslot : k.slot = j.slot) (hcursor : k.cursor = j.cursor) : k.DataSound where
  room := hhold ▸ h.room
  snapshot := by rw [hhold, hsnapshot]; exact h.snapshot
  close hk := by
    rw [atPeriodEnd, hhold]
    exact h.close (hclose ▸ hk)
  slot := hslot ▸ h.slot
  cursor := hcursor ▸ h.cursor

/-- JW stops, waits or rests with nothing in flight outside RUNNING and OPENING. -/
theorem JournalWriter.DataSound.stopped (h : j.DataSound) (hf : j.flight = none)
    (hopening : j.state ≠ .opening) (hrunning : j.state ≠ .running) : j.Sound :=
  ⟨h, (JournalWriter.flightSound_of_none hf).mpr ⟨hopening, fun hstate => absurd hstate hrunning⟩⟩

theorem JournalWriter.DataSound.inFlight (h : j.DataSound) {f : JournalFlight}
    (hf : j.flight = some f) (hfits : f.op.Fits j) : j.Sound :=
  ⟨h, (JournalWriter.flightSound_of_some hf).mpr hfits⟩

/-- A head that is a PERIOD_END entry is the one entry of the store that is (R152, R155). -/
theorem JournalWriter.DataSound.rest_of_atPeriodEnd (h : j.DataSound) (hend : j.atPeriodEnd = true) :
    j.hold.tail.countP HoldEntry.isPeriodEnd = 0 := by
  have hcount := h.snapshot
  cases hhold : j.hold with
  | nil => rfl
  | cons e rest =>
    have he : e.isPeriodEnd = true := by simpa [atPeriodEnd, hhold] using hend
    rw [hhold, List.countP_cons_of_pos he] at hcount
    rw [List.tail_cons]
    split at hcount <;> omega

/-- The completion of a period takes its entry, which is the one, and the snapshot (R165). -/
theorem JournalWriter.DataSound.periodCompleted (h : j.DataSound) (hclose : j.close = .none)
    (hend : j.atPeriodEnd = true) : JournalWriter.DataSound { j with
      hold := j.hold.tail, snapshot := none, period := j.period + 1, cursor := ⟨0, false⟩ } where
  room := by
    rw [List.length_tail]
    exact (Nat.sub_le _ _).trans h.room
  snapshot := h.rest_of_atPeriodEnd hend
  close hk := by
    rw [hclose] at hk
    cases hk
  slot := h.slot
  cursor := Nat.zero_le _

end Data

section Ops

variable {s : State}

theorem State.finishClose_data (h : s.jw.DataSound) {b : Bool}
    (hfits : (JournalOp.engineWrite b).Fits s.jw) : (s.finishClose b).jw.DataSound := by
  obtain ⟨-, hclose, hend⟩ := hfits
  cases b with
  | false => exact h
  | true =>
    rw [State.finishClose_periodEnd (hend rfl)]
    exact h.periodCompleted hclose (hend rfl)

theorem State.finishCloseOf_data (h : s.jw.Sound) : (s.finishCloseOf s.jw.flight).jw.DataSound := by
  by_cases hop : ∀ b, s.jw.flight.map JournalFlight.op ≠ some (.engineWrite b)
  · rw [State.finishCloseOf_of_ne hop]
    exact h.data
  · obtain ⟨b, hb⟩ := not_forall_not.mp hop
    obtain ⟨⟨op, a⟩, hf, rfl⟩ := Option.map_eq_some_iff.mp hb
    have hfits := (JournalWriter.flightSound_of_some hf).mp h.flight
    rw [hf]
    exact State.finishClose_data h.data hfits

/-- The next summary is that of a carrier (R165). -/
theorem nextSummary_lt {snapshot : Option Snapshot} {cursor c : Nat}
    (h : nextSummary snapshot cursor = some c) : c ≤ 63 := by
  have hmem := List.mem_of_find?_eq_some h
  rw [List.mem_range'_1] at hmem
  omega

/-- A JW in RUNNING with nothing in flight takes its next step or rests with nothing to do. -/
theorem State.journalAdvance_running (h : s.jw.DataSound) (hrunning : s.jw.state = .running)
    (hf : s.jw.flight = none) : s.journalAdvance.jw.Sound := by
  have hheader (k : ClosePending) (hk : k = .periodEnd → s.jw.atPeriodEnd = true) :
      (State.writeHeader { s with jw := { s.jw with close := k } }).jw.Sound := by
    refine JournalWriter.DataSound.inFlight ⟨h.room, h.snapshot, hk, h.slot, h.cursor⟩ rfl ?_
    exact hrunning
  unfold State.journalAdvance
  rw [if_pos ⟨hrunning, hf⟩]
  cases hclose : s.jw.close with
  | full => simpa [← hclose] using hheader s.jw.close h.close
  | periodEnd => simpa [← hclose] using hheader s.jw.close h.close
  | none =>
    cases hhold : s.jw.hold with
    | nil =>
      exact ⟨h, (JournalWriter.flightSound_of_none hf).mpr
        ⟨by simp [hrunning], fun _ => ⟨hclose, hhold⟩⟩⟩
    | cons e rest =>
      cases e with
      | charge r =>
        exact JournalWriter.DataSound.inFlight (h.congr rfl rfl rfl rfl rfl) rfl ⟨hrunning, nofun⟩
      | periodEnd p =>
        simp only
        split
        case isTrue =>
          exact hheader .periodEnd fun _ => by simp [JournalWriter.atPeriodEnd, hhold, HoldEntry.isPeriodEnd]
        case isFalse =>
          split
          case h_1 c hnext =>
            have hc := nextSummary_lt hnext
            exact JournalWriter.DataSound.inFlight
              ⟨h.room, h.snapshot, h.close, h.slot, hc.trans (by decide)⟩ rfl ⟨hrunning, fun _ => hc⟩
          case h_2 =>
            exact JournalWriter.DataSound.inFlight
              ⟨h.room, h.snapshot, h.close, h.slot, le_rfl⟩ rfl ⟨hrunning, nofun⟩

/-- A JW that may take its next step takes it or goes on with what it has in flight. -/
theorem State.journalAdvance_sound (h : s.jw.DataSound)
    (hidle : s.jw.flight = none → s.jw.state ≠ .opening)
    (hfits : ∀ f, s.jw.flight = some f → f.op.Fits s.jw) : s.journalAdvance.jw.Sound := by
  cases hf : s.jw.flight with
  | none =>
    by_cases hrunning : s.jw.state = .running
    · exact State.journalAdvance_running h hrunning hf
    · rw [State.journalAdvance_of_busy (.inl hrunning)]
      exact h.stopped hf (hidle hf) hrunning
  | some f =>
    rw [State.journalAdvance_of_busy (.inr (by simp [hf]))]
    exact h.inFlight hf (hfits f hf)

theorem State.openPage_sound (h : s.jw.DataSound) (reread : Bool) : (s.openPage reread).jw.Sound := by
  rw [State.openPage_eq, State.settlePoll_jw]
  exact JournalWriter.DataSound.inFlight (h.congr rfl rfl rfl rfl rfl) rfl rfl

theorem State.enterPage_sound (h : s.jw.DataSound) (page : Addr) : (s.enterPage page).jw.Sound := by
  refine State.journalAdvance_running ?_ ?_ ?_
  · rw [State.enterJournal, State.settlePoll_jw]
    exact h.congr rfl rfl rfl rfl rfl
  · rw [State.enterJournal, State.settlePoll_jw]
  · rw [State.enterJournal, State.settlePoll_jw]

theorem State.openAfterClose_sound (h : s.jw.DataSound) : s.openAfterClose.jw.Sound := by
  unfold State.openAfterClose
  simp only
  split
  · refine State.enterPage_sound ?_ _
    exact h.congr rfl rfl rfl rfl rfl
  · refine State.openPage_sound ?_ _
    exact h.congr rfl rfl rfl rfl rfl

theorem State.waitForPage_sound (h : s.jw.DataSound) (reread : Bool) :
    (s.waitForPage reread).jw.Sound := by
  have hentered : (State.enterJournal .waitingPage
      { s with jw := { s.jw with flight := none } }).jw.Sound := by
    rw [State.enterJournal, State.settlePoll_jw]
    exact JournalWriter.DataSound.stopped (h.congr rfl rfl rfl rfl rfl) rfl (by simp) (by simp)
  have hopened (u : State) (hu : u.jw.Sound) : (if u.jw.nudgeSeen then
      State.openPage true { u with jw := { u.jw with nudgeSeen := false } } else u).jw.Sound := by
    split
    · refine State.openPage_sound ?_ _
      exact hu.data.congr rfl rfl rfl rfl rfl
    · exact hu
  refine hopened _ ?_
  split
  · exact hentered
  · exact hentered

theorem State.startJournal_sound (h : s.jw.Sound) : s.startJournal.jw.Sound := by
  have hopened : (State.openPage false
      { s with jw := { s.jw with nudgeSeen := false, prefetch := none } }).jw.Sound := by
    refine State.openPage_sound ?_ false
    exact h.data.congr rfl rfl rfl rfl rfl
  unfold State.startJournal
  split
  case h_1 => exact hopened
  case h_2 => exact hopened
  case h_3 => exact h
  case h_4 => exact h
  case h_5 => exact h

/-- A change of JW outside what the two predicates speak of. -/
theorem JournalWriter.Sound.congr {j k : JournalWriter} (h : j.Sound) (hstate : k.state = j.state)
    (hflight : k.flight = j.flight) (hhold : k.hold = j.hold) (hsnapshot : k.snapshot = j.snapshot)
    (hclose : k.close = j.close) (hslot : k.slot = j.slot) (hcursor : k.cursor = j.cursor) :
    k.Sound where
  data := h.data.congr hhold hsnapshot hclose hslot hcursor
  flight := by
    have hfits (op : JournalOp) (hop : op.Fits j) : op.Fits k := by
      cases op <;> simp only [JournalOp.Fits, JournalWriter.atPeriodEnd, hstate, hcursor, hclose,
        hhold] at hop ⊢ <;> exact hop
    cases hf : j.flight with
    | none =>
      refine (JournalWriter.flightSound_of_none (hflight.trans hf)).mpr ?_
      rw [hstate, hclose, hhold]
      exact (JournalWriter.flightSound_of_none hf).mp h.flight
    | some f =>
      exact (JournalWriter.flightSound_of_some (hflight.trans hf)).mpr
        (hfits _ ((JournalWriter.flightSound_of_some hf).mp h.flight))

theorem State.nudgeJournal_sound (h : s.jw.Sound) : s.nudgeJournal.jw.Sound := by
  have hseen : JournalWriter.Sound { s.jw with nudgeSeen := true } :=
    h.congr rfl rfl rfl rfl rfl rfl rfl
  unfold State.nudgeJournal
  split
  case h_1 => exact State.openPage_sound h.data true
  case h_2 => exact hseen
  case h_3 => exact hseen
  case h_4 => exact h
  case h_5 => exact h

/-- The record that has been counted leaves the store, or the cursor moves (R162, R165). -/
theorem State.recordCounted_data (h : s.jw.DataSound) {k : RecordKind}
    (hfits : (JournalOp.count k).Fits s.jw) : (s.recordCounted k).jw.DataSound := by
  cases k with
  | marker => exact ⟨h.room, h.snapshot, h.close, h.slot, h.cursor⟩
  | summary => exact ⟨h.room, h.snapshot, h.close, h.slot, Nat.succ_le_succ (hfits.2 rfl)⟩
  | charge =>
    cases hhold : s.jw.hold with
    | nil => exact h.congr (by simp [State.recordCounted, hhold]) rfl rfl rfl rfl
    | cons e rest =>
      cases e with
      | periodEnd p => exact h.congr (by simp [State.recordCounted, hhold]) rfl rfl rfl rfl
      | charge r =>
        have hcharge : HoldEntry.isPeriodEnd (.charge r) = false := rfl
        simp only [State.recordCounted, hhold]
        refine ⟨?_, ?_, fun hclose => ?_, h.slot, h.cursor⟩
        · have hroom := h.room
          rw [hhold, List.length_cons] at hroom
          exact Nat.le_of_succ_le hroom
        · rw [← h.snapshot, hhold, List.countP_cons_of_neg (by simp [hcharge])]
        · have hend := h.close hclose
          simp [JournalWriter.atPeriodEnd, hhold, hcharge] at hend

theorem State.recordCounted_state (s : State) (k : RecordKind) :
    (s.recordCounted k).jw.state = s.jw.state ∧ (s.recordCounted k).jw.flight = s.jw.flight := by
  cases k <;> exact ⟨rfl, rfl⟩

theorem State.afterCount_sound (h : s.jw.DataSound) (hrunning : s.jw.state = .running)
    (hf : s.jw.flight = none) (k : RecordKind) : (s.afterCount k).jw.Sound := by
  unfold State.afterCount
  split
  case h_1 =>
    split
    · exact JournalWriter.DataSound.inFlight (h.congr rfl rfl rfl rfl rfl) rfl hrunning
    · exact State.journalAdvance_running h hrunning hf
  case h_2 =>
    split
    case isTrue =>
      exact State.journalAdvance_running ⟨h.room, h.snapshot, nofun, h.slot, h.cursor⟩ hrunning hf
    case isFalse hlast =>
      have hslot : 1 ≤ s.jw.slot + 1 ∧ s.jw.slot + 1 ≤ 63 := by
        have hbelow : s.jw.slot ≠ 63 := hlast
        have hbounds := h.slot
        omega
      simp only
      split
      · exact JournalWriter.DataSound.inFlight ⟨h.room, h.snapshot, h.close, hslot, h.cursor⟩ rfl
          hrunning
      · exact State.journalAdvance_running ⟨h.room, h.snapshot, h.close, hslot, h.cursor⟩ hrunning hf

theorem State.journalFault_sound (h : s.jw.Sound) {f : JournalFlight} (hf : s.jw.flight = some f)
    (kind : FaultKind) : (s.journalFault kind f).jw.Sound := by
  have hdata := State.finishCloseOf_data (s := s.offerFault kind .journal f.access.base) h
  rw [State.offerFault_jw, hf] at hdata
  rw [State.journalFault_eq, State.settlePoll_jw]
  exact JournalWriter.DataSound.stopped (hdata.congr rfl rfl rfl rfl rfl) rfl (by simp) (by simp)

theorem State.restartJournal_sound (h : s.jw.Sound) : s.restartJournal.jw.Sound := by
  rw [State.restartJournal_eq, State.settlePoll_jw]
  exact JournalWriter.DataSound.stopped ((State.finishCloseOf_data h).congr rfl rfl rfl rfl rfl) rfl
    (by simp) (by simp)

theorem State.reopenJournal_sound (h : s.jw.Sound) : s.reopenJournal.jw.Sound := by
  rw [State.reopenJournal_eq]
  refine State.openPage_sound ?_ false
  exact (State.restartJournal_sound h).data.congr rfl rfl rfl rfl rfl

/-- An entry joins the tail: the head stays the head. -/
theorem JournalWriter.atPeriodEnd_append {j : JournalWriter} (h : j.atPeriodEnd = true)
    (e : HoldEntry) : JournalWriter.atPeriodEnd { j with hold := j.hold ++ [e] } = true := by
  cases hhold : j.hold with
  | nil => simp [atPeriodEnd, hhold] at h
  | cons x rest => simpa [atPeriodEnd, hhold] using h

theorem JournalOp.Fits.placed {j : JournalWriter} {op : JournalOp} (h : op.Fits j) (e : HoldEntry)
    (p : Option Snapshot) : op.Fits { j with snapshot := p, hold := j.hold ++ [e] } := by
  cases op with
  | opening => exact h
  | prefetch => exact h
  | record => exact h
  | count => exact h
  | header => exact h
  | mapClear => exact h
  | engineWrite => exact ⟨h.1, h.2.1, fun hb => JournalWriter.atPeriodEnd_append (h.2.2 hb) e⟩

/-- An entry joins the store that has room for it, a PERIOD_END entry with the snapshot (R152, R161). -/
theorem State.placeHold_sound {e : HoldEntry} {p : Option Snapshot} (h : s.jw.Sound)
    (hfree : s.holdFree = true)
    (hsnapshot : (s.jw.hold ++ [e]).countP HoldEntry.isPeriodEnd = if p.isSome then 1 else 0) :
    (State.placeHold e { s with jw := { s.jw with snapshot := p } }).jw.Sound := by
  have hdata : JournalWriter.DataSound
      { s.jw with snapshot := p, hold := s.jw.hold ++ [e] } := by
    refine ⟨?_, hsnapshot, fun hclose => ?_, h.data.slot, h.data.cursor⟩
    · rw [List.length_append]
      exact of_decide_eq_true hfree
    · exact JournalWriter.atPeriodEnd_append (j := s.jw) (h.data.close hclose) e
  refine State.journalAdvance_sound hdata (fun hf => ?_) fun f hf => ?_
  · exact ((JournalWriter.flightSound_of_none (j := s.jw) hf).mp h.flight).1
  · exact ((JournalWriter.flightSound_of_some (j := s.jw) hf).mp h.flight).placed e p

end Ops

end Sys2Proof.Machine
end

section
/-! What CC and TAU have under way over every step (R1, R2, R4, R9, R10, R14 to R16, R57): O55. -/

namespace Sys2Proof.Machine

/-! ## What an event of SEIZE, of CRANKBACK or of a fill does to CC and TAU -/

/-- The request goes to its completion, waits for a line, or stands before a choice of its walk. -/
inductive State.WorkNext (s t : State) : Prop where
  | completing (code : ResultCode) (fields : List Field) :
      t.cc = (s.complete code fields).cc → t.tau.fill = s.tau.fill → State.WorkNext s t
  | waits (f : Fill) : t.cc = { s.cc with work := .awaitingLine } → t.tau.fill = some f →
      State.WorkNext s t
  | walks (p : WalkFor) (attempts : List Attempt) (choices : List Choice) :
      t.cc = { s.cc with work := .walking p attempts choices } → t.tau.fill = s.tau.fill →
      State.WorkNext s t

section WorkNext

variable {s t u : State}

theorem State.complete_cc (s : State) (code : ResultCode) (fields : List Field) :
    (s.complete code fields).cc = { s.cc with
      state := .working, work := .completing,
      flight := some ⟨.resultWrite code, ⟨s.cc.held, 64, .write (layout 64 64 fields)⟩⟩ } := by
  rw [State.complete_eq, State.settlePoll_cc]

theorem State.complete_cc_congr (h : t.cc = s.cc) (code : ResultCode) (fields : List Field) :
    (t.complete code fields).cc = (s.complete code fields).cc := by
  rw [State.complete_cc, State.complete_cc, h]

theorem State.WorkNext.after (h : t.WorkNext u) (hcc : t.cc = s.cc)
    (hfill : t.tau.fill = s.tau.fill) : s.WorkNext u := by
  cases h with
  | completing code fields hu hf =>
    exact .completing code fields (hu.trans (State.complete_cc_congr hcc code fields)) (hf.trans hfill)
  | waits f hu hf => exact .waits f (hcc ▸ hu) hf
  | walks p attempts choices hu hf => exact .walks p attempts choices (hcc ▸ hu) (hf.trans hfill)

theorem State.Considered.cc (h : s.Considered t) : t.cc = s.cc := by rw [h.frame]

theorem State.Considered.tau (h : s.Considered t) : t.tau = s.tau := by rw [h.frame]

theorem State.complete_workNext (s : State) (code : ResultCode) (fields : List Field) :
    s.WorkNext (s.complete code fields) := .completing code fields rfl (by simp)

theorem State.startFill_workNext (s : State) (tag : Tag) (r : Requester) :
    s.WorkNext (s.startFill tag r) := .waits _ rfl rfl

theorem State.walkOn_workNext (s : State) (p : WalkFor) (attempts : List Attempt)
    (choices : List Choice) : s.WorkNext (s.walkOn p attempts choices) :=
  .walks p attempts choices rfl rfl

theorem State.endCrankback_workNext (s : State) (i : CtxId) (code : ResultCode)
    (attempts : List Attempt) : s.WorkNext (s.endCrankback i code attempts) :=
  (State.complete_workNext (s.freeContext i) _ _).after (by simp) (by simp)

theorem State.admitChoice_workNext (s : State) (p : WalkFor) (c : Choice) (line : TariffLine)
    (quote : Nat) (tier : Tier) (attempts : List Attempt) :
    s.WorkNext (s.admitChoice p c line quote tier attempts) := by
  cases p with
  | seize terms =>
    simp only [State.admitChoice, State.admitSeizure]
    split
    · exact s.complete_workNext _ _
    · exact (State.complete_workNext _ _ _).after (by simp) (by simp)
  | crankback i => exact (State.complete_workNext _ _ _).after (by simp) (by simp)

theorem State.WalkNext.work {p : WalkFor} (h : State.WalkNext p s t) : s.WorkNext t := by
  cases h with
  | exhausted attempts =>
    cases p with
    | seize terms => exact s.complete_workNext _ _
    | crankback i => exact s.endCrankback_workNext i _ _
  | goesOn attempts choices h => exact (State.walkOn_workNext _ _ _ _).after h.cc (by rw [h.tau])
  | waits w tag => exact s.startFill_workNext _ _
  | admitted c line quote tier attempts h =>
    exact (State.admitChoice_workNext _ _ _ _ _ _ _).after h.cc (by rw [h.tau])

theorem State.SeizeNext.work (h : s.SeizeNext t) : s.WorkNext t := by
  cases h with
  | refused => exact s.complete_workNext _ _
  | waits => exact s.startFill_workNext _ _
  | walks => exact s.walkOn_workNext _ _ _

theorem State.CrankCellNext.work (h : s.CrankCellNext t) : s.WorkNext t := by
  cases h with
  | refused => exact s.complete_workNext _ _
  | limit => exact (State.endCrankback_workNext _ _ _ _).after (by simp) (by simp)
  | walks i _ _ h =>
    cases h with
    | waits => exact (State.startFill_workNext _ _ _).after (by simp) (by simp)
    | walks => exact (State.walkOn_workNext _ _ _ _).after (by simp) (by simp)

theorem Requester.Next.work {r : Requester} (h : r.Next s t) : s.WorkNext t := by
  cases h with
  | seize _ h => exact h.work
  | walk _ _ h => exact h.work
  | freed i => exact s.endCrankback_workNext i _ _

/-- A request in hand, whose own step it is, or a fill that has ended, from which the request goes on. -/
inductive State.WorkStarts (s : State) : State → Prop where
  | seized (cell : FetchedCell) : s.InHand .seize cell → s.WorkStarts s.dropOperands
  | crankedBack (cell : FetchedCell) : s.InHand .crankback cell → s.WorkStarts s
  | walked (p : WalkFor) (attempts : List Attempt) (choices : List Choice) :
      s.WalkInHand p attempts choices → s.WorkStarts s
  | filled (f : Fill) : s.tau.fill = some f → s.WorkStarts s.abandonFill

theorem State.RouteEffect.work {c : Instr} (h : s.RouteEffect c t) :
    ∃ u, s.WorkStarts u ∧ u.WorkNext t := by
  cases h with
  | seized cell hcell => exact ⟨_, .seized cell hcell, (seizeFirstEvent_next cell s).work⟩
  | crankedBack cell hcell => exact ⟨_, .crankedBack cell hcell, (crankbackCell_next cell s).work⟩
  | walked p attempts choices hwalk =>
    exact ⟨_, .walked p attempts choices hwalk, (s.walkEvent_next p attempts choices).work⟩
  | filled f data hfill =>
    have hwork := (f.requester.onLine_next (readBytes f.tag.kind.bytes data) { s with
      tau := ⟨installLine ⟨f.tag, readBytes f.tag.kind.bytes data⟩ s.tau.lines, none⟩ }).work
    exact ⟨_, .filled f hfill, hwork.after rfl rfl⟩
  | fillFailed _ kind f hfill =>
    have hwork := (f.requester.onFault_next ((s.offerFault kind .table f.address).abandonFill)).work
    exact ⟨_, .filled f hfill, hwork.after rfl rfl⟩

end WorkNext

/-! ## The chain states (R1, R2, R9, R10) -/

section Shape

variable {s t : State}

theorem State.ChainShape.congr (hs : s.ChainShape) (hcc : t.cc = s.cc)
    (hfill : t.tau.fill = s.tau.fill) : t.ChainShape := by
  unfold State.ChainShape at hs ⊢
  rw [hcc, hfill]
  exact hs

/-- No cell is being carried out and no line is awaited. -/
structure State.NoWork (s : State) : Prop where
  work : s.cc.work = .none
  cell : s.cc.cell = none
  fill : s.tau.fill = none

theorem State.chainShape_of_fetching {f : ChainFlight} (hstate : s.cc.state = .fetching)
    (hflight : s.cc.flight = some f) (hop : f.op.ofFetching = true) (hwork : s.NoWork) :
    s.ChainShape := by
  unfold State.ChainShape
  rw [hstate]
  exact ⟨⟨f, hflight, hop⟩, hwork.work, hwork.cell, hwork.fill⟩

theorem State.chainShape_of_completing {f : ChainFlight} (hstate : s.cc.state = .working)
    (hwork : s.cc.work = .completing) (hflight : s.cc.flight = some f)
    (hop : f.op.ofFetching = false) (hcell : s.cc.cell.isSome = true) (hfill : s.tau.fill = none) :
    s.ChainShape := by
  unfold State.ChainShape
  rw [hstate]
  exact ⟨hcell, .inr (.inr (.inr ⟨hwork, hfill, f, hflight, hop⟩))⟩

theorem State.ChainShape.of_fetching_flight (hs : s.ChainShape) {f : ChainFlight}
    (hflight : s.cc.flight = some f) (hop : f.op.ofFetching = true) : s.NoWork := by
  unfold State.ChainShape at hs
  split at hs
  case h_1 => simp [hflight] at hs
  case h_2 => simp [hflight] at hs
  case h_3 => simp [hflight] at hs
  case h_4 => exact ⟨hs.2.1, hs.2.2.1, hs.2.2.2⟩
  case h_5 =>
    obtain ⟨-, ⟨-, hnone, -⟩ | ⟨-, hnone, -⟩ | ⟨-, hnone, -⟩ | ⟨-, -, f', hf', hop'⟩⟩ := hs
    · simp [hflight] at hnone
    · simp [hflight] at hnone
    · simp [hflight] at hnone
    · rw [hflight] at hf'
      cases hf'
      rw [hop] at hop'
      cases hop'
  case h_6 => simp [hflight] at hs

theorem State.ChainShape.of_completing_flight (hs : s.ChainShape) {f : ChainFlight}
    (hflight : s.cc.flight = some f) (hop : f.op.ofFetching = false) :
    s.cc.state = .working ∧ s.cc.work = .completing ∧ s.cc.cell.isSome = true ∧
      s.tau.fill = none := by
  unfold State.ChainShape at hs
  split at hs
  case h_1 => simp [hflight] at hs
  case h_2 => simp [hflight] at hs
  case h_3 => simp [hflight] at hs
  case h_4 =>
    obtain ⟨⟨f', hf', hop'⟩, -⟩ := hs
    rw [hflight] at hf'
    cases hf'
    rw [hop] at hop'
    cases hop'
  case h_5 hstate =>
    obtain ⟨hcell, ⟨-, hnone, -⟩ | ⟨-, hnone, -⟩ | ⟨-, hnone, -⟩ | ⟨hwork, hfill, -⟩⟩ := hs
    · simp [hflight] at hnone
    · simp [hflight] at hnone
    · simp [hflight] at hnone
    · exact ⟨hstate, hwork, hcell, hfill⟩
  case h_6 => simp [hflight] at hs

theorem State.ChainShape.fill_of_flight (hs : s.ChainShape) {f : ChainFlight}
    (hflight : s.cc.flight = some f) : s.tau.fill = none := by
  cases hop : f.op.ofFetching with
  | true => exact (hs.of_fetching_flight hflight hop).fill
  | false => exact (hs.of_completing_flight hflight hop).2.2.2

/-- A cell is in hand in WORKING with nothing in flight and no line awaited. -/
structure State.CellReady (s : State) : Prop where
  state : s.cc.state = .working
  cell : s.cc.cell.isSome = true
  flight : s.cc.flight = none
  fill : s.tau.fill = none

theorem State.ChainShape.cellReady_of_dispatched (hs : s.ChainShape) (hstate : s.cc.state = .working)
    (hwork : s.cc.work = .dispatched) : s.CellReady := by
  unfold State.ChainShape at hs
  rw [hstate] at hs
  obtain ⟨hcell, ⟨-, hflight, hfill⟩ | ⟨hother, -⟩ | ⟨⟨p, as, cs, hother⟩, -⟩ | ⟨hother, -⟩⟩ := hs
  · exact ⟨hstate, hcell, hflight, hfill⟩
  · rw [hwork] at hother
    cases hother
  · rw [hwork] at hother
    cases hother
  · rw [hwork] at hother
    cases hother

theorem State.ChainShape.cellReady_of_walking (hs : s.ChainShape) {p : WalkFor}
    {attempts : List Attempt} {choices : List Choice} (h : s.WalkInHand p attempts choices) :
    s.CellReady := by
  obtain ⟨hstate, hwork⟩ := h
  unfold State.ChainShape at hs
  rw [hstate] at hs
  obtain ⟨hcell, ⟨hother, -⟩ | ⟨hother, -⟩ | ⟨-, hflight, hfill⟩ | ⟨hother, -⟩⟩ := hs
  · rw [hwork] at hother
    cases hother
  · rw [hwork] at hother
    cases hother
  · exact ⟨hstate, hcell, hflight, hfill⟩
  · rw [hwork] at hother
    cases hother

theorem State.ChainShape.awaiting_of_fill (hs : s.ChainShape) {f : Fill} (hf : s.tau.fill = some f) :
    s.cc.state = .working ∧ s.cc.cell.isSome = true ∧ s.cc.work = .awaitingLine ∧
      s.cc.flight = none := by
  unfold State.ChainShape at hs
  split at hs
  case h_1 => simp [hf] at hs
  case h_2 => simp [hf] at hs
  case h_3 => simp [hf] at hs
  case h_4 => simp [hf] at hs
  case h_5 hstate =>
    obtain ⟨hcell, ⟨-, -, hnone⟩ | ⟨hwork, hflight, -⟩ | ⟨-, -, hnone⟩ | ⟨-, hnone, -⟩⟩ := hs
    · simp [hf] at hnone
    · exact ⟨hstate, hcell, hwork, hflight⟩
    · simp [hf] at hnone
    · simp [hf] at hnone
  case h_6 => simp [hf] at hs

theorem State.ChainShape.noWork_of_idle (hs : s.ChainShape)
    (hstate : s.cc.state = .idle ∨ s.cc.state = .waiting ∨ s.cc.state = .faulted) :
    s.cc.flight = none ∧ s.NoWork := by
  unfold State.ChainShape at hs
  obtain hstate | hstate | hstate := hstate
  · rw [hstate] at hs
    exact ⟨hs.1, hs.2.1, hs.2.2.1, hs.2.2.2.1⟩
  · rw [hstate] at hs
    exact ⟨hs.1, hs.2.1, hs.2.2.1, hs.2.2.2⟩
  · rw [hstate] at hs
    exact ⟨hs.1, hs.2.1, hs.2.2.1, hs.2.2.2⟩

theorem State.ChainShape.stalled_cell (hs : s.ChainShape) (hstate : s.cc.state = .stalled) :
    s.cc.cell.isSome = true ∧ s.tau.fill = none := by
  unfold State.ChainShape at hs
  rw [hstate] at hs
  exact ⟨hs.1, hs.2.2.1⟩

theorem State.WorkStarts.cellReady {u : State} (h : s.WorkStarts u) (hs : s.ChainShape) :
    u.CellReady := by
  cases h with
  | seized cell hcell =>
    obtain ⟨hstate, hwork, -, -⟩ := hcell
    obtain ⟨-, hsome, hflight, hfill⟩ := hs.cellReady_of_dispatched hstate hwork
    exact ⟨hstate, by simpa using hsome, hflight, hfill⟩
  | crankedBack cell hcell => exact hs.cellReady_of_dispatched hcell.1 hcell.2.1
  | walked p attempts choices hwalk => exact hs.cellReady_of_walking hwalk
  | filled f hf =>
    obtain ⟨hstate, hcell, -, hflight⟩ := hs.awaiting_of_fill hf
    exact ⟨hstate, hcell, hflight, rfl⟩

theorem State.complete_shape (hcell : s.cc.cell.isSome = true) (hfill : s.tau.fill = none)
    (code : ResultCode) (fields : List Field) : (s.complete code fields).ChainShape := by
  have hcc := s.complete_cc code fields
  refine State.chainShape_of_completing (by rw [hcc]) (by rw [hcc]) (by rw [hcc]) ?_ (by rw [hcc]; exact hcell)
    (by simpa using hfill)
  rfl

theorem State.WorkNext.shape (h : s.WorkNext t) (hs : s.CellReady) : t.ChainShape := by
  cases h with
  | completing code fields hcc hfill =>
    exact (State.complete_shape hs.cell hs.fill code fields).congr hcc (by simpa using hfill)
  | waits f hcc hfill =>
    have hstate : t.cc.state = .working := by rw [hcc]; exact hs.state
    unfold State.ChainShape
    rw [hstate, hcc]
    exact ⟨hs.cell, .inr (.inl ⟨rfl, hs.flight, by simp [hfill]⟩)⟩
  | walks p attempts choices hcc hfill =>
    have hstate : t.cc.state = .working := by rw [hcc]; exact hs.state
    unfold State.ChainShape
    rw [hstate, hcc]
    exact ⟨hs.cell, .inr (.inr (.inl ⟨⟨p, attempts, choices, rfl⟩, hs.flight, hfill.trans hs.fill⟩))⟩

/-! ## The events of CC -/

theorem State.readLink_shape (h : s.NoWork) : s.readLink.ChainShape := by
  rw [State.readLink_eq]
  refine State.ChainShape.congr ?_ (State.settlePoll_cc _) (by simp)
  exact State.chainShape_of_fetching rfl rfl rfl ⟨h.work, h.cell, h.fill⟩

theorem State.readAnchor_shape (h : s.NoWork) : s.readAnchor.ChainShape := by
  rw [State.readAnchor_eq]
  refine State.ChainShape.congr ?_ (State.settlePoll_cc _) (by simp)
  exact State.chainShape_of_fetching rfl rfl rfl ⟨h.work, h.cell, h.fill⟩

theorem State.fetchCell_shape (h : s.NoWork) : s.fetchCell.ChainShape := by
  rw [State.fetchCell_eq]
  refine State.ChainShape.congr ?_ (State.settlePoll_cc _) (by simp)
  exact State.chainShape_of_fetching rfl rfl rfl ⟨h.work, h.cell, h.fill⟩

theorem State.writeRetireMark_shape (h : s.NoWork) {op : ChainOp} (hop : op.ofFetching = true)
    (mark : Addr) : (s.writeRetireMark op mark).ChainShape := by
  rw [State.writeRetireMark_eq]
  refine State.ChainShape.congr ?_ (State.settlePoll_cc _) (by simp)
  exact State.chainShape_of_fetching rfl rfl hop ⟨h.work, h.cell, h.fill⟩

theorem State.chainIdle_shape (hfill : s.tau.fill = none) : s.chainIdle.ChainShape := by
  rw [State.chainIdle_eq]
  refine State.ChainShape.congr ?_ (State.settlePoll_cc _) (by simp)
  exact ⟨rfl, rfl, rfl, hfill, rfl, rfl⟩

theorem State.chainFault_shape (hfill : s.tau.fill = none) (kind : FaultKind) (a : Addr) :
    (s.chainFault kind a).ChainShape := by
  rw [State.chainFault_eq]
  refine State.ChainShape.congr ?_ (State.settlePoll_cc _) (by simp)
  exact ⟨rfl, rfl, rfl, hfill⟩

theorem State.enterChain_cc (s : State) (x : ChainState) :
    (s.enterChain x).cc = { s.cc with state := x } := by
  rw [State.enterChain, State.settlePoll_cc]

theorem State.endFlight_noWork (h : s.NoWork) : s.endFlight.NoWork := ⟨h.work, h.cell, h.fill⟩

theorem State.enterWaiting_shape (hflight : s.cc.flight = none) (h : s.NoWork) :
    (s.enterChain .waiting).ChainShape := by
  unfold State.ChainShape
  rw [State.enterChain_cc, State.enterChain_tau]
  exact ⟨hflight, h.work, h.cell, h.fill⟩

theorem State.enterStalled_shape (hcell : s.cc.cell.isSome = true) (hflight : s.cc.flight = none)
    (hfill : s.tau.fill = none)
    (hwork : (∃ r, s.cc.work = .stalledRelease r) ∨ s.cc.work = .stalledClose) :
    (s.enterChain .stalled).ChainShape := by
  unfold State.ChainShape
  rw [State.enterChain_cc, State.enterChain_tau]
  exact ⟨hcell, hflight, hfill, hwork⟩

theorem State.dispatchCell_shape (hfill : s.tau.fill = none) (cell : FetchedCell) :
    (s.dispatchCell cell).ChainShape := by
  have hdispatched : (State.enterChain .working { s with
      cc := { s.cc with cell := some cell, work := .dispatched, flight := none } }).ChainShape := by
    unfold State.ChainShape
    rw [State.enterChain_cc, State.enterChain_tau]
    exact ⟨rfl, .inl ⟨rfl, rfl, hfill⟩⟩
  unfold State.dispatchCell
  simp only
  split
  · exact hdispatched
  · exact State.complete_shape (by rw [State.enterChain_cc]; rfl) (by simpa using hfill) _ _

theorem State.ChainShape.noteStop (hs : s.ChainShape)
    (hstate : s.cc.state = .fetching ∨ s.cc.state = .working ∨ s.cc.state = .stalled)
    (stop nudge : Bool) : State.ChainShape { s with
      cc := { s.cc with stopPending := stop, nudgeSeen := nudge } } := by
  unfold State.ChainShape at hs ⊢
  obtain hstate | hstate | hstate := hstate <;> simp only [hstate] at hs ⊢ <;> exact hs

theorem State.ChainEffect.shape {c : Instr} (h : s.ChainEffect c t) (hs : s.ChainShape) :
    t.ChainShape := by
  have hwork {op : ChainOp} {a : Access} (hflight : s.cc.flight = some ⟨op, a⟩)
      (hop : op.ofFetching = true) : s.NoWork := hs.of_fetching_flight hflight hop
  cases h with
  | anchorAsked _ hidle => exact State.readAnchor_shape (hs.noWork_of_idle (.inl hidle)).2
  | stopNoted hstate => exact hs.noteStop hstate true s.cc.nudgeSeen
  | stopped hstate => exact State.chainIdle_shape (hs.noWork_of_idle (.inr (.inl hstate))).2.fill
  | faultLeft hstate => exact State.chainIdle_shape (hs.noWork_of_idle (.inr (.inr hstate))).2.fill
  | anchorWritten half value _ hidle =>
    unfold State.ChainShape at hs
    rw [hidle] at hs
    unfold State.ChainShape State.writeAnchor
    cases half <;> simpa only [hidle, if_true] using hs
  | headTaken a hflight =>
    have h := hwork hflight rfl
    exact State.fetchCell_shape ⟨h.work, h.cell, h.fill⟩
  | dispatched a data hflight => exact State.dispatchCell_shape (hwork hflight rfl).fill _
  | resultWritten code a hflight =>
    obtain ⟨hstate, hdone, hcell, hfill⟩ := hs.of_completing_flight hflight rfl
    exact State.chainShape_of_completing (f := ⟨.statusWrite, _⟩) hstate hdone rfl rfl hcell hfill
  | completedToIdle a u hflight hu =>
    refine State.chainIdle_shape ?_
    have hfill := hs.fill_of_flight hflight
    rw [hu]
    split <;> exact hfill
  | completedToLink a u hflight hu =>
    refine State.readLink_shape ⟨rfl, rfl, ?_⟩
    have hfill := hs.fill_of_flight hflight
    rw [hu]
    split <;> exact hfill
  | linkStopped a data hflight => exact State.chainIdle_shape (hwork hflight rfl).fill
  | linkReread a data hflight =>
    have h := hwork hflight rfl
    exact State.readLink_shape ⟨h.work, h.cell, h.fill⟩
  | linkAwaited a data hflight =>
    exact State.enterWaiting_shape rfl (State.endFlight_noWork (hwork hflight rfl))
  | retired a data n hflight =>
    have h := hwork hflight rfl
    refine State.writeRetireMark_shape ?_ rfl _
    exact ⟨h.work, h.cell, h.fill⟩
  | nextTaken n a hflight =>
    have h := hwork hflight rfl
    exact State.fetchCell_shape ⟨h.work, h.cell, h.fill⟩
  | faulted _ kind f hflight => exact State.chainFault_shape (hs.fill_of_flight hflight) _ _
  | abandonedReported =>
    unfold State.ChainShape at hs ⊢
    exact hs
  | releaseStalled cell r hcell =>
    have h := hs.cellReady_of_dispatched hcell.1 hcell.2.1
    exact State.enterStalled_shape h.cell h.flight h.fill (.inl ⟨r, rfl⟩)
  | closeStalled cell hcell =>
    have h := hs.cellReady_of_dispatched hcell.1 hcell.2.1
    exact State.enterStalled_shape h.cell h.flight h.fill (.inr rfl)

theorem State.nudgeChain_shape (hs : s.ChainShape) : s.nudgeChain.ChainShape := by
  unfold State.nudgeChain
  split
  case h_1 hstate => exact State.readLink_shape (hs.noWork_of_idle (.inr (.inl hstate))).2
  case h_2 hstate => exact hs.noteStop (.inl hstate) s.cc.stopPending true
  case h_3 hstate => exact hs.noteStop (.inr (.inl hstate)) s.cc.stopPending true
  case h_4 hstate => exact hs.noteStop (.inr (.inr hstate)) s.cc.stopPending true
  case h_5 => exact hs
  case h_6 => exact hs

theorem State.pollExpiry_cc (s : State) : s.pollExpiry.cc =
    if s.cc.state = .waiting then s.readLink.cc else s.cc := by
  have hread : (if s.cc.state = .waiting then
      State.readLink { s with tb := { s.tb with pollCounter := 0 } } else
      { s with tb := { s.tb with pollCounter := 0 } }).cc =
      if s.cc.state = .waiting then s.readLink.cc else s.cc := by
    split
    · rw [State.readLink_eq, State.readLink_eq, State.settlePoll_cc, State.settlePoll_cc]
    · rfl
  unfold State.pollExpiry
  simp only
  split
  · rw [State.openPage_cc, hread]
  · exact hread

theorem State.pollExpiry_shape (hs : s.ChainShape) : s.pollExpiry.ChainShape := by
  have hcc := s.pollExpiry_cc
  split at hcc
  case isTrue hstate =>
    exact (State.readLink_shape (hs.noWork_of_idle (.inr (.inl hstate))).2).congr hcc (by simp)
  case isFalse => exact hs.congr hcc (by simp)

theorem State.coldReset_shape (s : State) : s.coldReset.ChainShape := ⟨rfl, rfl, rfl, rfl, rfl, rfl⟩

theorem State.RequestFrame.shape {k : RequestKind} {cell : FetchedCell} {u : State}
    (h : s.RequestFrame u) (hs : s.ChainShape) (hcell : s.InHand k cell) (code : ResultCode)
    (fields : List Field) : (u.complete code fields).ChainShape := by
  have hready := hs.cellReady_of_dispatched hcell.1 hcell.2.1
  exact State.complete_shape (by rw [h.cc]; exact hready.cell) (h.fill.trans hready.fill) _ _

theorem State.Effect.shape {c : Instr} (h : s.Effect c t) (hs : s.ChainShape) : t.ChainShape := by
  cases h with
  | chain h => exact h.shape hs
  | journal h => exact hs.congr h.frame.cc (by rw [h.frame.tau])
  | routed h =>
    obtain ⟨u, hstart, hnext⟩ := h.work
    exact hnext.shape (hstart.cellReady hs)
  | completed code fields hcell h => exact h.frame.shape hs hcell code fields
  | releaseResumed r fields hstalled =>
    obtain ⟨hcell, hfill⟩ := hs.stalled_cell hstalled
    exact State.complete_shape (by simpa using hcell) (by simpa using hfill) _ _
  | closeResumed fields hstalled =>
    obtain ⟨hcell, hfill⟩ := hs.stalled_cell hstalled
    exact State.complete_shape (by simpa using hcell) (by simpa using hfill) _ _
  | started hidle =>
    exact (State.readLink_shape (hs.noWork_of_idle (.inl hidle)).2).congr (by simp) (by simp)
  | restarted => exact State.chainIdle_shape rfl
  | nudged => exact (State.nudgeChain_shape hs).congr (by simp) (by simp)
  | pollExpired => exact State.pollExpiry_shape hs
  | anchorLoaded a data hflight =>
    have h := hs.of_fetching_flight hflight rfl
    refine State.writeRetireMark_shape ⟨?_, ?_, ?_⟩ rfl _
    · simpa [State.endFlight] using h.work
    · simpa [State.endFlight] using h.cell
    · simpa using h.fill
  | cold => exact s.coldReset_shape
  | pinReset => exact s.coldReset_shape.congr rfl rfl
  | linkReset => exact s.coldReset_shape.congr rfl rfl
  | _ => exact hs.congr (by simp) (by simp)

end Shape

end Sys2Proof.Machine
end

section
/-! The place of the chain in its request area and the digits of a SEIZE over every step (R4, R5, R14 to
R16, R57): the rest of O55. -/

namespace Sys2Proof.Machine

/-! ## Where the chain stands (R4, R5, R14, R15) -/

/-- An access that says nothing of the place of the chain. -/
def ChainOp.isPlain : ChainOp → Bool
  | .anchorRead => false
  | .anchorEngineWrite => false
  | .cellFetch => true
  | .linkRead => true
  | .resultWrite _ => true
  | .statusWrite => true
  | .retireWrite _ => false

/-- The access in flight stands, or one has ended or begun that is plain. -/
def ChainController.FlightKept (c d : ChainController) : Prop :=
  d.flightOp = c.flightOp ∨ ∀ op, d.flightOp = some op → op.isPlain = true

/-- The held cell, position-valid and the anchor stand. -/
structure ChainController.SamePlace (c d : ChainController) : Prop where
  held : d.held = c.held
  positionValid : d.positionValid = c.positionValid
  anchor : d.anchor = c.anchor

/-- How the place of the chain can change. -/
inductive ChainController.PlaceChange (c d : ChainController) : Prop where
  | kept : c.SamePlace d → c.FlightKept d → ChainController.PlaceChange c d
  | cleared : d.positionValid = false → d.held = c.held → d.anchor = c.anchor →
      c.FlightKept d ∨ d.flightOp = some .anchorRead → ChainController.PlaceChange c d
  | loaded (f : AnchorFields) : f.valid = true → d.anchor = f →
      c.flightOp = some .anchorRead → d.flightOp = some .anchorEngineWrite →
      d.positionValid = c.positionValid → ChainController.PlaceChange c d
  | headTaken : c.flightOp = some .anchorEngineWrite → d.held = c.anchor.chainHead →
      d.anchor = c.anchor → d.flightOp = some .cellFetch → ChainController.PlaceChange c d
  | retired (n : Addr) : c.SamePlace d → d.flightOp = some (.retireWrite n) →
      c.anchor.cellAddress n = true → n ≠ c.held → ChainController.PlaceChange c d
  | nextTaken (n : Addr) : c.flightOp = some (.retireWrite n) → d.held = n →
      d.positionValid = c.positionValid → d.anchor = c.anchor → d.flightOp = some .cellFetch →
      ChainController.PlaceChange c d
  | reset : d = ChainController.cold → ChainController.PlaceChange c d

section Place

variable {c d : ChainController}

theorem AnchorFields.valid_chainHead {f : AnchorFields} (h : f.valid = true) :
    f.cellAddress f.chainHead = true := by
  simp only [AnchorFields.valid, Bool.and_eq_true] at h
  obtain ⟨⟨⟨⟨⟨-, hhead⟩, -⟩, -⟩, -⟩, -⟩ := h
  exact hhead

theorem AnchorFields.valid_mapLength {f : AnchorFields} (h : f.valid = true) : 1 ≤ f.mapLength := by
  simp only [AnchorFields.valid, Bool.and_eq_true, decide_eq_true_eq] at h
  obtain ⟨⟨-, hlength⟩, -⟩ := h
  exact hlength

theorem ChainController.FlightKept.op (h : c.FlightKept d) {op : ChainOp} (hop : op.isPlain = false)
    (hd : d.flightOp = some op) : c.flightOp = some op := by
  obtain hsame | hplain := h
  · exact hsame ▸ hd
  · have hnot := hplain op hd
    rw [hop] at hnot
    cases hnot

theorem ChainController.PlaceChange.areaSound (h : c.PlaceChange d) (hc : c.AreaSound) :
    d.AreaSound := by
  cases h with
  | kept hplace hflight =>
    obtain ⟨hheld, hvalid, hanchor⟩ := hplace
    constructor
    · rw [hheld, hvalid, hanchor]
      exact hc.held
    · intro n hn
      rw [hheld, hanchor]
      exact hc.next n (hflight.op rfl hn)
    · intro hop
      rw [hvalid, hanchor]
      exact hc.head (hflight.op rfl hop)
    · intro hop
      rw [hvalid]
      exact hc.anchor_read (hflight.op rfl hop)
  | cleared hvalid hheld hanchor hflight =>
    have hop {op : ChainOp} (hop : op.isPlain = false) (hne : op ≠ .anchorRead)
        (hd : d.flightOp = some op) : c.flightOp = some op := by
      obtain hkept | hread := hflight
      · exact hkept.op hop hd
      · rw [hread, Option.some_inj] at hd
        exact absurd hd.symm hne
    constructor
    · rw [hvalid]
      nofun
    · intro n hn
      rw [hheld, hanchor]
      exact hc.next n (hop rfl (by simp) hn)
    · intro hd
      rw [hanchor]
      exact ⟨(hc.head (hop rfl (by simp) hd)).1, hvalid⟩
    · exact fun _ => hvalid
  | loaded f hgood hanchor hread hop hvalid =>
    have hclear : d.positionValid = false := hvalid.trans (hc.anchor_read hread)
    constructor
    · rw [hclear]
      nofun
    · intro n hn
      rw [hop] at hn
      cases hn
    · exact fun _ => ⟨hanchor ▸ hgood, hclear⟩
    · exact fun _ => hclear
  | headTaken hwrite hheld hanchor hop =>
    have hgood := (hc.head hwrite).1
    constructor
    · exact fun _ => ⟨hanchor ▸ hgood, by rw [hheld, hanchor]; exact AnchorFields.valid_chainHead hgood⟩
    all_goals simp [hop]
  | retired n hplace hop hgood hne =>
    obtain ⟨hheld, hvalid, hanchor⟩ := hplace
    constructor
    · rw [hheld, hvalid, hanchor]
      exact hc.held
    · intro m hm
      rw [hop] at hm
      cases hm
      rw [hanchor, hheld]
      exact ⟨hgood, hne⟩
    all_goals simp [hop]
  | nextTaken n hwrite hheld hvalid hanchor hop =>
    constructor
    · intro hpos
      rw [hanchor, hheld]
      exact ⟨(hc.held (hvalid ▸ hpos)).1, (hc.next n hwrite).1⟩
    all_goals simp [hop]
  | reset hcold =>
    rw [hcold]
    constructor <;> nofun

end Place

/-! ## The events -/

section Effects

variable {s t : State}

theorem ChainController.FlightKept.of_flight {c d : ChainController} (h : d.flight = c.flight) :
    c.FlightKept d := .inl (by rw [flightOp, flightOp, h])

theorem ChainController.FlightKept.of_none {c d : ChainController} (h : d.flight = none) :
    c.FlightKept d := .inr fun op hop => by simp [flightOp, h] at hop

theorem ChainController.FlightKept.of_plain {c d : ChainController} {f : ChainFlight}
    (h : d.flight = some f) (hop : f.op.isPlain = true) : c.FlightKept d :=
  .inr fun op hd => by
    simp only [flightOp, h, Option.map_some, Option.some_inj] at hd
    exact hd ▸ hop

theorem ChainController.PlaceChange.of_eq {c d : ChainController} (h : d = c) : c.PlaceChange d :=
  .kept ⟨by rw [h], by rw [h], by rw [h]⟩ (.of_flight (by rw [h]))

theorem State.readLink_cc (s : State) : s.readLink.cc = { s.cc with
    state := .fetching, flight := some ⟨.linkRead, ⟨s.cc.held, 0, .read 8⟩⟩ } := by
  rw [State.readLink_eq, State.settlePoll_cc]

theorem State.fetchCell_cc (s : State) : s.fetchCell.cc = { s.cc with
    state := .fetching, flight := some ⟨.cellFetch, ⟨s.cc.held, 0, .read 64⟩⟩ } := by
  rw [State.fetchCell_eq, State.settlePoll_cc]

theorem State.readAnchor_cc (s : State) : s.readAnchor.cc = { s.cc with
    state := .fetching, flight := some ⟨.anchorRead, ⟨s.anchorAddress, 0, .read 256⟩⟩ } := by
  rw [State.readAnchor_eq, State.settlePoll_cc]

theorem State.writeRetireMark_cc (op : ChainOp) (mark : Addr) (s : State) :
    (s.writeRetireMark op mark).cc = { s.cc with
      state := .fetching,
      flight := some ⟨op, ⟨s.anchorAddress, 128, .write (layout 128 12
        [⟨128, 8, mark.toNat⟩, ⟨136, 4, s.cc.retiredCount.toNat⟩])⟩⟩ } := by
  rw [State.writeRetireMark_eq, State.settlePoll_cc]

theorem State.chainIdle_cc (s : State) : s.chainIdle.cc = { s.cc with
    state := .idle, stopPending := false, nudgeSeen := false, flight := none, cell := none,
    work := .none } := by
  rw [State.chainIdle_eq, State.settlePoll_cc]

theorem State.chainFault_cc (s : State) (kind : FaultKind) (a : Addr) :
    (s.chainFault kind a).cc =
      { s.cc with state := .faulted, flight := none, cell := none, work := .none } := by
  rw [State.chainFault_eq, State.settlePoll_cc]

theorem State.dispatchCell_place (s : State) (cell : FetchedCell) :
    s.cc.PlaceChange (s.dispatchCell cell).cc := by
  unfold State.dispatchCell
  simp only
  split
  · rw [State.enterChain_cc]
    exact .kept ⟨rfl, rfl, rfl⟩ (.of_none rfl)
  · rw [State.complete_cc, State.enterChain_cc]
    exact .kept ⟨rfl, rfl, rfl⟩ (.of_plain rfl rfl)

theorem State.ChainEffect.place {c : Instr} (h : s.ChainEffect c t) : s.cc.PlaceChange t.cc := by
  have hop {op : ChainOp} {a : Access} (hflight : s.cc.flight = some ⟨op, a⟩) :
      s.cc.flightOp = some op := by simp [ChainController.flightOp, hflight]
  cases h with
  | anchorAsked _ _ hvalid =>
    rw [State.readAnchor_cc]
    exact .cleared hvalid rfl rfl (.inr rfl)
  | stopNoted => exact .kept ⟨rfl, rfl, rfl⟩ (.of_flight rfl)
  | stopped =>
    rw [State.chainIdle_cc]
    exact .kept ⟨rfl, rfl, rfl⟩ (.of_none rfl)
  | faultLeft =>
    rw [State.chainIdle_cc]
    exact .cleared rfl rfl rfl (.inl (.of_none rfl))
  | anchorWritten half value _ hidle =>
    unfold State.writeAnchor
    rw [if_pos hidle]
    cases half <;> exact .cleared rfl rfl rfl (.inl (.of_flight rfl))
  | headTaken a hflight =>
    rw [State.fetchCell_cc]
    exact .headTaken (hop hflight) rfl rfl rfl
  | dispatched => exact s.dispatchCell_place _
  | resultWritten => exact .kept ⟨rfl, rfl, rfl⟩ (.of_plain rfl rfl)
  | completedToIdle a u _ hu =>
    have hcc : u.cc = s.cc := by
      rw [hu]
      split <;> rfl
    rw [State.chainIdle_cc, hcc]
    exact .kept ⟨rfl, rfl, rfl⟩ (.of_none rfl)
  | completedToLink a u _ hu =>
    have hcc : u.cc = s.cc := by
      rw [hu]
      split <;> rfl
    rw [State.readLink_cc, State.dropCell, hcc]
    exact .kept ⟨rfl, rfl, rfl⟩ (.of_plain rfl rfl)
  | linkStopped =>
    rw [State.chainIdle_cc]
    exact .kept ⟨rfl, rfl, rfl⟩ (.of_none rfl)
  | linkReread =>
    rw [State.readLink_cc]
    exact .kept ⟨rfl, rfl, rfl⟩ (.of_plain rfl rfl)
  | linkAwaited =>
    rw [State.enterChain_cc]
    exact .kept ⟨rfl, rfl, rfl⟩ (.of_none rfl)
  | retired a data n _ hgood =>
    simp only [State.goodLink, Bool.and_eq_true, bne_iff_ne] at hgood
    unfold State.retire
    simp only
    rw [State.writeRetireMark_cc]
    exact .retired n ⟨rfl, rfl, rfl⟩ rfl hgood.1 hgood.2
  | nextTaken n a hflight =>
    rw [State.fetchCell_cc]
    exact .nextTaken n (hop hflight) rfl rfl rfl rfl
  | faulted =>
    rw [State.chainFault_cc]
    exact .kept ⟨rfl, rfl, rfl⟩ (.of_none rfl)
  | abandonedReported => exact .kept ⟨rfl, rfl, rfl⟩ (.of_flight rfl)
  | releaseStalled =>
    rw [State.enterChain_cc]
    exact .kept ⟨rfl, rfl, rfl⟩ (.of_flight rfl)
  | closeStalled =>
    rw [State.enterChain_cc]
    exact .kept ⟨rfl, rfl, rfl⟩ (.of_flight rfl)

theorem State.complete_place {u : State} (hu : u.cc = s.cc) (code : ResultCode)
    (fields : List Field) : s.cc.PlaceChange (u.complete code fields).cc := by
  rw [State.complete_cc, hu]
  exact .kept ⟨rfl, rfl, rfl⟩ (.of_plain rfl rfl)

theorem State.WorkNext.place (h : s.WorkNext t) : s.cc.PlaceChange t.cc := by
  cases h with
  | completing code fields hcc =>
    rw [hcc]
    exact State.complete_place rfl _ _
  | waits f hcc =>
    rw [hcc]
    exact .kept ⟨rfl, rfl, rfl⟩ (.of_flight rfl)
  | walks p attempts choices hcc =>
    rw [hcc]
    exact .kept ⟨rfl, rfl, rfl⟩ (.of_flight rfl)

theorem State.WorkStarts.cc_congr {u : State} (h : s.WorkStarts u)
    (hplace : u.cc.PlaceChange t.cc) : s.cc.PlaceChange t.cc := by
  cases h with
  | seized =>
    cases hplace with
    | kept hp hf => exact .kept ⟨hp.held, hp.positionValid, hp.anchor⟩ hf
    | cleared hv hh ha hf => exact .cleared hv hh ha hf
    | loaded f hf ha hr hw hv => exact .loaded f hf ha hr hw hv
    | headTaken hw hh ha hf => exact .headTaken hw hh ha hf
    | retired n hp hw hg hne => exact .retired n ⟨hp.held, hp.positionValid, hp.anchor⟩ hw hg hne
    | nextTaken n hw hh hv ha hf => exact .nextTaken n hw hh hv ha hf
    | reset h => exact .reset h
  | crankedBack => exact hplace
  | walked => exact hplace
  | filled => exact hplace

theorem State.nudgeChain_place (s : State) : s.cc.PlaceChange s.nudgeChain.cc := by
  unfold State.nudgeChain
  split
  case h_1 =>
    rw [State.readLink_cc]
    exact .kept ⟨rfl, rfl, rfl⟩ (.of_plain rfl rfl)
  case h_2 => exact .kept ⟨rfl, rfl, rfl⟩ (.of_flight rfl)
  case h_3 => exact .kept ⟨rfl, rfl, rfl⟩ (.of_flight rfl)
  case h_4 => exact .kept ⟨rfl, rfl, rfl⟩ (.of_flight rfl)
  case h_5 => exact .of_eq rfl
  case h_6 => exact .of_eq rfl

theorem State.restart_cc (s : State) : s.restart.cc = { s.cc with
    state := .idle, positionValid := false, stopPending := false, nudgeSeen := false,
    flight := none, cell := none, work := .none,
    abandoned := abandonedAfter s.cc.abandoned (s.cc.flight.map ChainFlight.access) } := by
  rw [State.restart, State.chainIdle_cc]
  simp

theorem State.loadAnchor_cc (s : State) (f : AnchorFields) : (s.loadAnchor f).cc = { s.cc with
    anchor := f, state := .fetching,
    flight := some ⟨.anchorEngineWrite, ⟨s.anchorAddress, 128, .write (layout 128 12
      [⟨128, 8, (0 : Addr).toNat⟩, ⟨136, 4, s.cc.retiredCount.toNat⟩])⟩⟩ } := by
  simp [State.loadAnchor, State.writeRetireMark_cc, State.anchorAddress]

theorem State.Effect.place {c : Instr} (h : s.Effect c t) : s.cc.PlaceChange t.cc := by
  cases h with
  | chain h => exact h.place
  | journal h => exact .of_eq h.frame.cc
  | routed h =>
    obtain ⟨u, hstart, hnext⟩ := h.work
    exact hstart.cc_congr hnext.place
  | completed code fields hcell h => exact State.complete_place h.frame.cc _ _
  | releaseResumed => exact State.complete_place (by simp) _ _
  | closeResumed => exact State.complete_place (by simp) _ _
  | started =>
    rw [State.startJournal_cc, State.readLink_cc]
    exact .kept ⟨rfl, rfl, rfl⟩ (.of_plain rfl rfl)
  | restarted =>
    rw [State.restart_cc]
    exact .cleared rfl rfl rfl (.inl (.of_none rfl))
  | nudged =>
    rw [State.nudgeJournal_cc]
    exact s.nudgeChain_place
  | pollExpired =>
    rw [State.pollExpiry_cc, State.readLink_cc]
    split
    · exact .kept ⟨rfl, rfl, rfl⟩ (.of_plain rfl rfl)
    · exact .of_eq rfl
  | anchorLoaded a data hflight hvalid =>
    rw [State.loadAnchor_cc]
    exact .loaded _ hvalid rfl (by simp [ChainController.flightOp, hflight]) rfl rfl
  | cold => exact .reset rfl
  | pinReset => exact .reset rfl
  | linkReset => exact .reset rfl
  | _ => exact .of_eq (by simp)

/-! ## The number dialled (R57) -/

theorem State.numberDropped_of_noCell (h : t.cc.cell = none) : t.NumberDropped := by
  intro c hc
  rw [h] at hc
  cases hc

theorem State.NumberDropped.congr (hs : s.NumberDropped) (hcell : t.cc.cell = s.cc.cell)
    (hwork : t.cc.work = s.cc.work) : t.NumberDropped := by
  intro c hc hseize
  rw [hwork]
  exact hs c (hcell ▸ hc) hseize

/-- A SEIZE in hand that is past its first step has no operand bytes, whatever it comes to. -/
theorem State.NumberDropped.of_past (hs : s.NumberDropped) (hwork : s.cc.work ≠ .dispatched)
    (hcell : t.cc.cell = s.cc.cell) : t.NumberDropped := by
  intro c hc hseize
  exact .inr ((hs c (hcell ▸ hc) hseize).resolve_left hwork)

theorem State.numberDropped_of_kind {k : RequestKind} {cell : FetchedCell} (hcell : s.InHand k cell)
    (hk : k ≠ .seize) (ht : t.cc.cell = s.cc.cell) : t.NumberDropped := by
  intro c hc hseize
  obtain ⟨-, -, hinHand, hkind⟩ := hcell
  rw [ht, hinHand] at hc
  cases hc
  rw [hkind] at hseize
  exact absurd (Option.some_inj.mp hseize) hk

theorem State.WorkNext.cell (h : s.WorkNext t) : t.cc.cell = s.cc.cell := by
  cases h with
  | completing code fields hcc => rw [hcc, State.complete_cc]
  | waits f hcc => rw [hcc]
  | walks p attempts choices hcc => rw [hcc]

theorem State.ChainShape.work_of_stalled (hs : s.ChainShape) (hstate : s.cc.state = .stalled) :
    s.cc.work ≠ .dispatched := by
  unfold State.ChainShape at hs
  rw [hstate] at hs
  obtain ⟨-, -, -, ⟨r, hwork⟩ | hwork⟩ := hs <;> simp [hwork]

theorem State.dispatchCell_numberDropped (s : State) (cell : FetchedCell) :
    (s.dispatchCell cell).NumberDropped := by
  unfold State.dispatchCell
  simp only
  split
  case isTrue =>
    intro c _ _
    rw [State.enterChain_cc]
    exact .inl rfl
  case isFalse hkind =>
    intro c hc hseize
    rw [State.complete_cc, State.enterChain_cc] at hc
    cases hc
    exact absurd (by simp [hseize]) hkind

theorem State.ChainEffect.numberDropped {c : Instr} (h : s.ChainEffect c t) (hshape : s.ChainShape)
    (hs : s.NumberDropped) : t.NumberDropped := by
  have hnone {op : ChainOp} {a : Access} (hflight : s.cc.flight = some ⟨op, a⟩)
      (hop : op.ofFetching = true) : s.cc.cell = none := (hshape.of_fetching_flight hflight hop).cell
  cases h with
  | anchorAsked _ hidle =>
    exact State.numberDropped_of_noCell (by
      rw [State.readAnchor_cc]
      exact (hshape.noWork_of_idle (.inl hidle)).2.cell)
  | stopNoted => exact hs.congr rfl rfl
  | stopped => exact State.numberDropped_of_noCell (by rw [State.chainIdle_cc])
  | faultLeft => exact State.numberDropped_of_noCell (by rw [State.chainIdle_cc])
  | anchorWritten half value _ hidle =>
    unfold State.writeAnchor
    rw [if_pos hidle]
    cases half <;> exact hs.congr rfl rfl
  | headTaken a hflight =>
    exact State.numberDropped_of_noCell (by rw [State.fetchCell_cc]; exact hnone hflight rfl)
  | dispatched => exact s.dispatchCell_numberDropped _
  | resultWritten => exact hs.congr rfl rfl
  | completedToIdle => exact State.numberDropped_of_noCell (by rw [State.chainIdle_cc])
  | completedToLink => exact State.numberDropped_of_noCell (by rw [State.readLink_cc]; rfl)
  | linkStopped => exact State.numberDropped_of_noCell (by rw [State.chainIdle_cc])
  | linkReread a data hflight =>
    exact State.numberDropped_of_noCell (by rw [State.readLink_cc]; exact hnone hflight rfl)
  | linkAwaited a data hflight =>
    exact State.numberDropped_of_noCell (by rw [State.enterChain_cc]; exact hnone hflight rfl)
  | retired a data n hflight =>
    exact State.numberDropped_of_noCell (by
      rw [State.retire, State.writeRetireMark_cc]
      exact hnone hflight rfl)
  | nextTaken n a hflight =>
    exact State.numberDropped_of_noCell (by rw [State.fetchCell_cc]; exact hnone hflight rfl)
  | faulted => exact State.numberDropped_of_noCell (by rw [State.chainFault_cc])
  | abandonedReported => exact hs.congr rfl rfl
  | releaseStalled cell r hcell =>
    exact State.numberDropped_of_kind hcell (by simp) (by rw [State.enterChain_cc])
  | closeStalled cell hcell =>
    exact State.numberDropped_of_kind hcell (by simp) (by rw [State.enterChain_cc])

theorem State.RouteEffect.numberDropped {c : Instr} (h : s.RouteEffect c t) (hshape : s.ChainShape)
    (hs : s.NumberDropped) : t.NumberDropped := by
  obtain ⟨u, hstart, hnext⟩ := h.work
  cases hstart with
  | seized cell =>
    intro c hc _
    rw [hnext.cell, State.dropOperands_cell] at hc
    obtain ⟨c', -, rfl⟩ := Option.map_eq_some_iff.mp hc
    exact .inr rfl
  | crankedBack cell hcell => exact State.numberDropped_of_kind hcell (by simp) hnext.cell
  | walked p attempts choices hwalk => exact hs.of_past (by simp [hwalk.2]) hnext.cell
  | filled f hfill => exact hs.of_past (by simp [(hshape.awaiting_of_fill hfill).2.2.1]) hnext.cell

theorem State.RequestChange.ne_seize {k : RequestKind} {u : State} (h : s.RequestChange k u) :
    k ≠ .seize := by
  cases h with
  | unchanged _ hk => exact hk
  | _ => simp

theorem State.Effect.numberDropped {c : Instr} (h : s.Effect c t) (hshape : s.ChainShape)
    (hs : s.NumberDropped) : t.NumberDropped := by
  cases h with
  | chain h => exact h.numberDropped hshape hs
  | journal h => exact hs.congr (by rw [h.frame.cc]) (by rw [h.frame.cc])
  | routed h => exact h.numberDropped hshape hs
  | completed code fields hcell h =>
    exact State.numberDropped_of_kind hcell h.ne_seize (by rw [State.complete_cc, h.frame.cc])
  | releaseResumed r fields hstalled =>
    exact hs.of_past (hshape.work_of_stalled hstalled) (by simp [State.complete_cc])
  | closeResumed fields hstalled =>
    exact hs.of_past (hshape.work_of_stalled hstalled) (by simp [State.complete_cc])
  | started hidle => exact hs.congr (by simp [State.readLink_cc]) (by simp [State.readLink_cc])
  | restarted => exact State.numberDropped_of_noCell (by rw [State.restart_cc])
  | nudged =>
    have hcell : s.nudgeChain.cc.cell = s.cc.cell ∧ s.nudgeChain.cc.work = s.cc.work := by
      unfold State.nudgeChain
      split <;> simp [State.readLink_cc]
    exact hs.congr (by simp [hcell.1]) (by simp [hcell.2])
  | pollExpired =>
    have hcc := s.pollExpiry_cc
    refine hs.congr ?_ ?_ <;> rw [hcc] <;> split <;> simp [State.readLink_cc]
  | anchorLoaded => exact hs.congr (by rw [State.loadAnchor_cc]; rfl) (by rw [State.loadAnchor_cc]; rfl)
  | cold => exact State.numberDropped_of_noCell rfl
  | pinReset => exact State.numberDropped_of_noCell rfl
  | linkReset => exact State.numberDropped_of_noCell rfl
  | _ => exact hs.congr (by simp) (by simp)

end Effects

/-- Settles O55: each event leaves CC and TAU as its state says, moves the chain only to a good cell or
the chain head, and the first event of a SEIZE drops the operand bytes. -/
theorem chainStaysSound : Obligations.ChainStaysSound :=
  ⟨step_keeps (fun _ _ hs => hs.congr rfl rfl) fun _ _ _ h => h.shape,
    step_keeps (fun _ _ hs => hs) fun _ _ _ h => h.place.areaSound,
    fun s t hshape hs hstep =>
      (step_keeps (P := fun u => u.ChainShape ∧ u.NumberDropped)
        (fun _ _ hu => ⟨hu.1.congr rfl rfl, hu.2.congr rfl rfl⟩)
        (fun _ _ _ h hu => ⟨h.shape hu.1, h.numberDropped hu.1 hu.2⟩) s t ⟨hshape, hs⟩ hstep).2⟩

end Sys2Proof.Machine
end

section
/-! The Journal Writer and its map over every step (R157 to R167): O54. -/

namespace Sys2Proof.Machine

section Sound

variable {s t : State}

theorem State.JournalEffect.sound {c : Instr} (h : s.JournalEffect c t) (hs : s.jw.Sound) :
    t.jw.Sound := by
  have hfits {op : JournalOp} {a : Access} (hflight : s.jw.flight = some ⟨op, a⟩) : op.Fits s.jw :=
    (JournalWriter.flightSound_of_some hflight).mp hs.flight
  cases h with
  | pageOpened => exact State.enterPage_sound hs.data _
  | pageAwaited => exact State.waitForPage_sound hs.data _
  | recordWritten k a hflight =>
    exact JournalWriter.DataSound.inFlight (hs.data.congr rfl rfl rfl rfl rfl) rfl (hfits hflight)
  | countWritten k a hflight =>
    have hcount : (JournalOp.count k).Fits { s.jw with flight := none } := hfits hflight
    have hdata : JournalWriter.DataSound { s.jw with flight := none } :=
      hs.data.congr rfl rfl rfl rfl rfl
    obtain ⟨hstate, hnone⟩ :=
      State.recordCounted_state { s with jw := { s.jw with flight := none } } k
    exact State.afterCount_sound
      (State.recordCounted_data (s := { s with jw := { s.jw with flight := none } }) hdata hcount)
      (hstate.trans hcount.1) hnone k
  | prefetched a data hflight =>
    refine State.journalAdvance_running ?_ (hfits hflight) rfl
    exact hs.data.congr rfl rfl rfl rfl rfl
  | headerWritten a hflight =>
    exact JournalWriter.DataSound.inFlight (hs.data.congr rfl rfl rfl rfl rfl) rfl (hfits hflight)
  | mapCleared a hflight =>
    refine JournalWriter.DataSound.inFlight (j := State.jw _)
      ⟨hs.data.room, hs.data.snapshot, nofun, ⟨le_rfl, show 1 ≤ 63 by decide⟩, hs.data.cursor⟩ rfl ?_
    exact ⟨hfits hflight, rfl, fun hend => hs.data.close (eq_of_beq hend)⟩
  | closed periodEnd a hflight =>
    exact State.openAfterClose_sound (State.finishClose_data hs.data (hfits hflight))
  | faulted _ kind f hflight => exact State.journalFault_sound hs hflight kind
  | abandonedReported => exact hs.congr rfl rfl rfl rfl rfl rfl rfl

/-- A CHARGE entry joins the store (R124, R161). -/
theorem State.chargeEvent_sound (hs : s.jw.Sound) (hfree : s.holdFree = true) (r : PendingRelease) :
    (s.chargeEvent r).jw.Sound := by
  have hjw : (s.chargeEvent r).jw = ((s.accumulate ((s.context r.ctx).charge r.ctx r)).placeHold
      (.charge ((s.context r.ctx).charge r.ctx r))).jw := State.freeContext_jw _ _
  rw [hjw]
  refine State.placeHold_sound (s := s.accumulate ((s.context r.ctx).charge r.ctx r))
    (p := s.jw.snapshot) hs hfree ?_
  rw [State.accumulate_jw, List.countP_append, hs.data.snapshot]
  rfl

/-- The PERIOD_END entry joins the store with its snapshot (R153, R155). -/
theorem State.closeEvent_sound (hs : s.jw.Sound) (hready : s.closeReady = true) :
    s.closeEvent.jw.Sound := by
  simp only [State.closeReady, Bool.and_eq_true, Option.isNone_iff_eq_none] at hready
  obtain ⟨hnone, hfree⟩ := hready
  refine State.placeHold_sound (s := { s with
    ru := ⟨Vector.replicate 64 Account.zero, s.ru.period + 1⟩, agr := s.agr.close })
    (p := some ⟨s.ru.period, s.ru.accounts⟩) hs hfree ?_
  have hcount := hs.data.snapshot
  rw [hnone] at hcount
  rw [List.countP_append, show s.jw.hold.countP HoldEntry.isPeriodEnd = 0 from hcount]
  rfl

theorem State.RequestChange.journalSound {u : State} {k : RequestKind} (h : s.RequestChange k u)
    (hs : s.jw.Sound) : u.jw.Sound := by
  cases h with
  | charged r hfree => exact State.chargeEvent_sound hs hfree r
  | closed hready => exact State.closeEvent_sound hs hready
  | reported =>
    rw [State.clearChanges_eq]
    exact hs
  | released i far => cases far <;> simpa using hs
  | _ => simpa using hs

theorem State.pollExpiry_jw (s : State) : s.pollExpiry.jw =
    if s.jw.state = .waitingPage then (s.openPage true).jw else s.jw := by
  have hread (v : State) : (if s.cc.state = .waiting then v.readLink else v).jw = v.jw := by
    split
    · simp
    · rfl
  have haddress (v : State) (index : Nat) :
      (if s.cc.state = .waiting then v.readLink else v).cc.anchor = v.cc.anchor := by
    split
    · simp
    · rfl
  unfold State.pollExpiry
  simp only
  split
  · rw [State.openPage_eq, State.openPage_eq, State.settlePoll_jw, State.settlePoll_jw, hread,
      haddress _ 0]
  · exact hread _

theorem State.coldReset_journalSound (s : State) : s.coldReset.jw.Sound where
  data := ⟨Nat.zero_le _, rfl, nofun, ⟨le_rfl, show 1 ≤ 63 by decide⟩, Nat.zero_le _⟩
  flight := ⟨nofun, nofun⟩

theorem State.restart_jw (s : State) : s.restart.jw = s.restartJournal.jw := by
  simp [State.restart]

theorem State.loadAnchor_jw (s : State) (f : AnchorFields) : (s.loadAnchor f).jw =
    (State.reopenJournal (State.flush { s with
      cc := { s.cc with anchor := f }, tb := { s.tb with pollCounter := 0 } })).jw := by
  simp [State.loadAnchor]

theorem State.Effect.journalSound {c : Instr} (h : s.Effect c t) (hs : s.jw.Sound) :
    t.jw.Sound := by
  cases h with
  | chain h => exact h.frame.jw ▸ hs
  | journal h => exact h.sound hs
  | routed h => exact h.frame.jw ▸ hs
  | completed code fields _ h =>
    rw [State.complete_jw]
    exact h.journalSound hs
  | releaseResumed r _ _ hfree =>
    rw [State.complete_jw]
    exact State.chargeEvent_sound hs hfree r
  | closeResumed _ _ hready =>
    rw [State.complete_jw]
    exact State.closeEvent_sound hs hready
  | started => exact State.startJournal_sound (by simpa using hs)
  | restarted =>
    rw [State.restart_jw]
    exact State.restartJournal_sound hs
  | nudged => exact State.nudgeJournal_sound (by simpa using hs)
  | pollExpired =>
    rw [State.pollExpiry_jw]
    split
    · exact State.openPage_sound hs.data true
    · exact hs
  | anchorLoaded =>
    rw [State.loadAnchor_jw]
    exact State.reopenJournal_sound hs
  | cold => exact s.coldReset_journalSound
  | pinReset => exact s.coldReset_journalSound
  | linkReset => exact s.coldReset_journalSound
  | _ => simpa using hs

end Sound

/-! ## The map (R157, R160) -/

section Map

variable {s t : State}

/-- JW is at work: out of IDLE or with an access in flight. -/
def JournalWriter.Active (j : JournalWriter) : Prop := j.state ≠ .idle ∨ j.flight ≠ none

/-- The map index stands, and a JW at work was so before or has a map to work on. -/
structure State.IndexKept (s t : State) : Prop where
  index : t.jw.mapIndex = s.jw.mapIndex
  active : t.jw.Active → s.jw.Active

theorem State.openPage_mapIndex (s : State) (reread : Bool) :
    (s.openPage reread).jw.mapIndex = s.jw.mapIndex := by
  rw [State.openPage_eq, State.settlePoll_jw]

theorem State.journalAdvance_mapIndex (s : State) :
    s.journalAdvance.jw.mapIndex = s.jw.mapIndex := by rw [s.journalAdvance_eq]

theorem State.enterPage_mapIndex (s : State) (page : Addr) :
    (s.enterPage page).jw.mapIndex = s.jw.mapIndex := by
  rw [State.enterPage, State.journalAdvance_mapIndex, State.enterJournal, State.settlePoll_jw]

theorem State.waitForPage_mapIndex (s : State) (reread : Bool) :
    (s.waitForPage reread).jw.mapIndex = s.jw.mapIndex := by
  unfold State.waitForPage
  cases reread <;> simp only [Bool.false_eq_true, if_true, if_false] <;> split <;>
    simp [State.openPage_mapIndex, State.enterJournal]

theorem State.recordCounted_mapIndex (s : State) (k : RecordKind) :
    (s.recordCounted k).jw.mapIndex = s.jw.mapIndex := by cases k <;> rfl

theorem State.afterCount_mapIndex (s : State) (k : RecordKind) :
    (s.afterCount k).jw.mapIndex = s.jw.mapIndex := by
  unfold State.afterCount
  split
  case h_1 =>
    split
    · rfl
    · exact s.journalAdvance_mapIndex
  case h_2 =>
    split
    · exact State.journalAdvance_mapIndex _
    · simp only
      split
      · rfl
      · exact State.journalAdvance_mapIndex _

theorem State.finishClose_mapIndex (s : State) (periodEnd : Bool) :
    (s.finishClose periodEnd).jw.mapIndex = s.jw.mapIndex := by cases periodEnd <;> rfl

theorem State.finishCloseOf_mapIndex (s : State) (f : Option JournalFlight) :
    (s.finishCloseOf f).jw.mapIndex = s.jw.mapIndex := by
  unfold State.finishCloseOf
  split
  · exact s.finishClose_mapIndex _
  · rfl

theorem State.openAfterClose_mapIndex (s : State) :
    s.openAfterClose.jw.mapIndex = s.jw.mapIndex := by
  unfold State.openAfterClose
  simp only
  split
  · exact State.enterPage_mapIndex _ _
  · exact State.openPage_mapIndex _ _

theorem State.journalFault_mapIndex (s : State) (kind : FaultKind) (f : JournalFlight) :
    (s.journalFault kind f).jw.mapIndex = s.jw.mapIndex := by
  rw [State.journalFault_eq, State.settlePoll_jw]
  exact State.finishCloseOf_mapIndex _ _

theorem State.startJournal_mapIndex (s : State) : s.startJournal.jw.mapIndex = s.jw.mapIndex := by
  unfold State.startJournal
  split
  case h_1 => exact State.openPage_mapIndex _ _
  case h_2 => exact State.openPage_mapIndex _ _
  case h_3 => rfl
  case h_4 => rfl
  case h_5 => rfl

/-- The index of a map entry is below the map length, or 0 (R157). -/
theorem State.nextMapIndex_lt (h : 1 ≤ s.cc.anchor.mapLength) :
    s.nextMapIndex < s.cc.anchor.mapLength := Nat.mod_lt _ h

/-- What the statement says of CC. -/
structure ChainController.MapPlaced (c : ChainController) : Prop where
  positioned : c.positionValid = true → 1 ≤ c.anchor.mapLength
  anchor_write : c.flightOp = some .anchorEngineWrite → 1 ≤ c.anchor.mapLength

theorem ChainController.PlaceChange.mapPlaced {c d : ChainController} (h : c.PlaceChange d)
    (hc : c.MapPlaced) : d.MapPlaced := by
  cases h with
  | kept hplace hflight =>
    exact ⟨by rw [hplace.positionValid, hplace.anchor]; exact hc.positioned,
      fun hop => by rw [hplace.anchor]; exact hc.anchor_write (hflight.op rfl hop)⟩
  | cleared hvalid hheld hanchor hflight =>
    refine ⟨by rw [hvalid]; nofun, fun hop => ?_⟩
    rw [hanchor]
    obtain hkept | hread := hflight
    · exact hc.anchor_write (hkept.op rfl hop)
    · rw [hread] at hop
      cases hop
  | loaded f hgood hanchor =>
    have hlength := AnchorFields.valid_mapLength hgood
    exact ⟨fun _ => hanchor ▸ hlength, fun _ => hanchor ▸ hlength⟩
  | headTaken hwrite hheld hanchor hop =>
    exact ⟨fun _ => hanchor ▸ hc.anchor_write hwrite, fun hd => by simp [hop] at hd⟩
  | retired n hplace hop =>
    exact ⟨by rw [hplace.positionValid, hplace.anchor]; exact hc.positioned,
      fun hd => by simp [hop] at hd⟩
  | nextTaken n hwrite hheld hvalid hanchor hop =>
    exact ⟨by rw [hvalid, hanchor]; exact hc.positioned, fun hd => by simp [hop] at hd⟩
  | reset hcold =>
    rw [hcold]
    constructor <;> nofun

theorem State.MapSound.placed (hs : s.MapSound) : s.cc.MapPlaced := ⟨hs.positioned, hs.anchor_write⟩

theorem State.MapSound.of_placed (hplaced : t.cc.MapPlaced)
    (hindex : t.jw.mapIndex < t.cc.anchor.mapLength ∨ t.jw.mapIndex = 0)
    (hactive : t.jw.Active → 1 ≤ t.cc.anchor.mapLength) : t.MapSound :=
  ⟨hindex, hactive, hplaced.positioned, hplaced.anchor_write⟩

/-- A change of CC that keeps the anchor, and of JW that keeps the map index. -/
theorem State.MapSound.keeps (hs : s.MapSound) (hplaced : t.cc.MapPlaced)
    (hanchor : t.cc.anchor = s.cc.anchor) (hindex : t.jw.mapIndex = s.jw.mapIndex)
    (hactive : t.jw.Active → s.jw.Active ∨ 1 ≤ s.cc.anchor.mapLength) : t.MapSound := by
  refine .of_placed hplaced ?_ fun h => ?_
  · rw [hindex, hanchor]
    exact hs.index
  · rw [hanchor]
    exact (hactive h).elim hs.active id

theorem State.JournalEffect.mapSound {c : Instr} (h : s.JournalEffect c t) (hs : s.MapSound) :
    t.MapSound := by
  have hcc := h.frame.cc
  have hplaced : t.cc.MapPlaced := hcc ▸ hs.placed
  have hlength {f : JournalFlight} (hflight : s.jw.flight = some f) : 1 ≤ s.cc.anchor.mapLength :=
    hs.active (.inr (by simp [hflight]))
  have hkeeps {f : JournalFlight} (hflight : s.jw.flight = some f)
      (hindex : t.jw.mapIndex = s.jw.mapIndex) : t.MapSound :=
    hs.keeps hplaced (by rw [hcc]) hindex fun _ => .inr (hlength hflight)
  cases h with
  | pageOpened reread a data hflight => exact hkeeps hflight (State.enterPage_mapIndex _ _)
  | pageAwaited reread a data hflight => exact hkeeps hflight (State.waitForPage_mapIndex _ _)
  | recordWritten k a hflight => exact hkeeps hflight rfl
  | countWritten k a hflight =>
    exact hkeeps hflight
      ((State.afterCount_mapIndex _ k).trans (State.recordCounted_mapIndex _ k))
  | prefetched a data hflight => exact hkeeps hflight (State.journalAdvance_mapIndex _)
  | headerWritten a hflight => exact hkeeps hflight rfl
  | mapCleared a hflight =>
    exact .of_placed hplaced (.inl (State.nextMapIndex_lt (hlength hflight)))
      fun _ => hlength hflight
  | closed periodEnd a hflight =>
    exact hkeeps hflight
      ((State.openAfterClose_mapIndex _).trans (State.finishClose_mapIndex _ _))
  | faulted _ kind f hflight => exact hkeeps hflight (State.journalFault_mapIndex _ _ _)
  | abandonedReported => exact hs.keeps hplaced rfl rfl fun h => .inl h

theorem State.placeHold_indexKept (s : State) (e : HoldEntry) : s.IndexKept (s.placeHold e) := by
  refine ⟨State.journalAdvance_mapIndex _, fun hactive => ?_⟩
  by_cases hidle : s.jw.state = .idle
  · have hbusy : s.jw.state ≠ .running ∨ s.jw.flight ≠ none := .inl (by simp [hidle])
    rw [State.placeHold_of_busy e hbusy] at hactive
    exact hactive
  · exact .inl hidle

theorem State.chargeEvent_indexKept (s : State) (r : PendingRelease) :
    s.IndexKept (s.chargeEvent r) := by
  have hplaced := State.placeHold_indexKept (s.accumulate ((s.context r.ctx).charge r.ctx r))
    (.charge ((s.context r.ctx).charge r.ctx r))
  have hjw : (s.chargeEvent r).jw = ((s.accumulate ((s.context r.ctx).charge r.ctx r)).placeHold
      (.charge ((s.context r.ctx).charge r.ctx r))).jw := State.freeContext_jw _ _
  constructor
  · rw [hjw, hplaced.index, State.accumulate_jw]
  · rw [hjw]
    exact hplaced.active

theorem State.closeEvent_indexKept (s : State) : s.IndexKept s.closeEvent := by
  have hplaced := State.placeHold_indexKept { s with
    jw := { s.jw with snapshot := some ⟨s.ru.period, s.ru.accounts⟩ },
    ru := ⟨Vector.replicate 64 Account.zero, s.ru.period + 1⟩, agr := s.agr.close }
    (.periodEnd s.ru.period)
  exact ⟨hplaced.index, hplaced.active⟩

theorem State.RequestChange.indexKept {u : State} {k : RequestKind} (h : s.RequestChange k u) :
    s.IndexKept u := by
  have hsame (hjw : u.jw = s.jw) : s.IndexKept u := ⟨by rw [hjw], by rw [hjw]; exact id⟩
  cases h with
  | charged r => exact s.chargeEvent_indexKept r
  | closed => exact s.closeEvent_indexKept
  | reported => exact hsame (by rw [State.clearChanges_eq])
  | released i far => cases far <;> exact hsame (by simp)
  | _ => exact hsame (by simp)

theorem State.reopenJournal_mapIndex (s : State) (h : 1 ≤ s.cc.anchor.mapLength) :
    s.reopenJournal.jw.mapIndex < s.cc.anchor.mapLength := by
  rw [State.reopenJournal_eq, State.openPage_mapIndex]
  simp only [State.restartJournal_cc]
  split
  · exact h
  case isFalse hbelow => exact not_le.mp hbelow

theorem State.Effect.mapSound {c : Instr} (h : s.Effect c t) (hs : s.MapSound) : t.MapSound := by
  have hplaced : t.cc.MapPlaced := h.place.mapPlaced hs.placed
  cases h with
  | chain h =>
    exact hs.keeps hplaced h.frame.poll.anchor (by rw [h.frame.jw])
      fun hactive => .inl (h.frame.jw ▸ hactive)
  | journal h => exact h.mapSound hs
  | routed h =>
    exact hs.keeps hplaced h.frame.poll.anchor (by rw [h.frame.jw])
      fun hactive => .inl (h.frame.jw ▸ hactive)
  | completed code fields _ h =>
    exact hs.keeps hplaced (by rw [State.complete_anchor, h.frame.cc])
      (by rw [State.complete_jw]; exact h.indexKept.index)
      fun hactive => .inl (h.indexKept.active (by rwa [State.complete_jw] at hactive))
  | releaseResumed r fields =>
    exact hs.keeps hplaced (by simp) (by rw [State.complete_jw]; exact (s.chargeEvent_indexKept r).index)
      fun hactive => .inl ((s.chargeEvent_indexKept r).active (by rwa [State.complete_jw] at hactive))
  | closeResumed fields =>
    exact hs.keeps hplaced (by simp) (by rw [State.complete_jw]; exact s.closeEvent_indexKept.index)
      fun hactive => .inl (s.closeEvent_indexKept.active (by rwa [State.complete_jw] at hactive))
  | started hidle hvalid =>
    exact hs.keeps hplaced (by simp) (by simp [State.startJournal_mapIndex])
      fun _ => .inr (hs.positioned hvalid)
  | restarted =>
    refine hs.keeps hplaced (by rw [State.restart_cc]) ?_ fun hactive => ?_
    · rw [State.restart_jw, State.restartJournal_eq, State.settlePoll_jw]
      exact State.finishCloseOf_mapIndex _ _
    · rw [State.restart_jw, State.restartJournal_eq, State.settlePoll_jw] at hactive
      obtain hactive | hactive := hactive <;> exact absurd rfl hactive
  | nudged =>
    refine hs.keeps hplaced (by simp) ?_ fun hactive => ?_
    · unfold State.nudgeJournal
      split <;> simp [State.openPage_mapIndex]
    · by_cases hidle : s.jw.state = .idle
      · simpa [State.nudgeJournal, hidle] using Or.inl hactive
      · exact .inl (.inl hidle)
  | pollExpired =>
    refine hs.keeps hplaced (by simp) ?_ fun hactive => ?_
    · rw [State.pollExpiry_jw]
      split
      · exact State.openPage_mapIndex _ _
      · rfl
    · by_cases hwaits : s.jw.state = .waitingPage
      · exact .inl (.inl (by simp [hwaits]))
      · rw [State.pollExpiry_jw, if_neg hwaits] at hactive
        exact .inl hactive
  | anchorLoaded a data _ hgood =>
    have hlength := AnchorFields.valid_mapLength hgood
    refine .of_placed hplaced (.inl ?_) fun _ => by rw [State.loadAnchor_cc]; exact hlength
    rw [State.loadAnchor_jw, State.loadAnchor_cc]
    exact State.reopenJournal_mapIndex _ hlength
  | cold => exact .of_placed hplaced (.inr rfl) fun hactive => hactive.elim (absurd rfl) (absurd rfl)
  | pinReset => exact .of_placed hplaced (.inr rfl) fun hactive => hactive.elim (absurd rfl) (absurd rfl)
  | linkReset => exact .of_placed hplaced (.inr rfl) fun hactive => hactive.elim (absurd rfl) (absurd rfl)
  | _ => exact hs.keeps hplaced (by simp) (by simp) fun hactive => .inl (by simpa using hactive)

end Map

/-- Settles O54: every operation of JW keeps what it holds and what it has in flight consistent, and JW
leaves IDLE only with a map that has an entry. -/
theorem journalStaysSound : Obligations.JournalStaysSound :=
  ⟨fun s t hhold hshape hstep =>
    have hsound := step_keeps (P := fun u => u.jw.Sound) (fun _ _ hu => hu)
      (fun _ _ _ h => h.journalSound) s t (JournalWriter.sound_of hhold hshape) hstep
    ⟨hsound.holdSound, hsound.shapeSound⟩,
    step_keeps (fun _ _ hs => ⟨hs.index, hs.active, hs.positioned, hs.anchor_write⟩)
      fun _ _ _ h => h.mapSound⟩

end Sys2Proof.Machine
end

section
/-! What a command does to one context: O59, and the marks of O50 (R118, R120, R121, R125, R127). -/

namespace Sys2Proof.Machine

/-! ## One context -/

/-- What a command other than a SEIZE or a CRANKBACK can do to a context. -/
inductive Context.Mark (x : Context) : Context → Prop where
  | kept : x.Mark x
  | freed : x.live = true → x.Mark x.freed
  | answered (tick : Tick) (time : TimeOfWeek) : x.state = .seized → x.Mark { x with
      state := .answered, answerTick := some tick, answerTime := some time,
      overdue := false, overdueReported := false }
  | overdue : x.state = .seized → x.overdueReported = false → x.Mark { x with overdue := true }
  | reported : x.overdue = true →
      x.Mark { x with overdue := false, overdueReported := true }

/-- What any command other than a cold reset can do to a context: an admission gives a new call, a move
keeps state and marks. -/
inductive Context.Step (x y : Context) : Prop where
  | mark : x.Mark y → Context.Step x y
  | admitted : y.state = .seized → y.generation = x.generation → y.answerTick = none →
      y.answerTime = none → y.overdue = false → y.overdueReported = false → Context.Step x y
  | moved : y.state = x.state → y.generation = x.generation → y.answerTick = x.answerTick →
      y.answerTime = x.answerTime → y.overdue = x.overdue →
      y.overdueReported = x.overdueReported → Context.Step x y

section Step

variable {x y : Context}

theorem Context.live_iff : x.live = true ↔ x.state ≠ .free := by simp [live]

theorem Context.live_of_seized (h : x.state = .seized) : x.live = true := by simp [live, h]

theorem Context.freed_live (x : Context) : x.freed.live = false := rfl

theorem Context.live_congr (h : y.state = x.state) : y.live = x.live := by rw [live, live, h]

/-- The generation advances exactly when a live context has become free (R120). -/
theorem Context.Step.generation (h : x.Step y) : y.generation =
    if x.live = true ∧ y.live = false then x.generation + 1 else x.generation := by
  have hkept (hlive : x.live = true → y.live = true) (hgeneration : y.generation = x.generation) :
      y.generation = if x.live = true ∧ y.live = false then x.generation + 1 else x.generation := by
    rw [if_neg (fun hfreed => by simp [hlive hfreed.1] at hfreed), hgeneration]
  cases h with
  | mark h =>
    cases h with
    | kept => exact hkept id rfl
    | freed hlive => rw [if_pos ⟨hlive, x.freed_live⟩]; rfl
    | answered => exact hkept (fun _ => rfl) rfl
    | overdue => exact hkept id rfl
    | reported => exact hkept id rfl
  | admitted hstate hgeneration => exact hkept (fun _ => Context.live_of_seized hstate) hgeneration
  | moved hstate hgeneration => exact hkept (fun h => (Context.live_congr hstate).trans h) hgeneration

theorem Context.Step.marksSound (h : x.Step y) (hx : x.MarksSound) : y.MarksSound := by
  cases h with
  | mark h =>
    cases h with
    | kept => exact hx
    | freed => exact ⟨nofun, nofun, nofun, nofun⟩
    | answered => exact ⟨fun _ => ⟨rfl, rfl⟩, nofun, nofun, nofun⟩
    | overdue hseized hreported => exact ⟨hx.answered, hx.seized, fun _ => ⟨hseized, hreported⟩, hx.reported⟩
    | reported hoverdue => exact ⟨hx.answered, hx.seized, nofun, fun _ => (hx.overdue hoverdue).1⟩
  | admitted hstate _ htick htime hoverdue hreported =>
    refine ⟨fun h => ?_, fun _ => ⟨htick, htime⟩, fun h => ?_, fun h => ?_⟩
    · rw [hstate] at h
      cases h
    · rw [hoverdue] at h
      cases h
    · rw [hreported] at h
      cases h
  | moved hstate _ htick htime hoverdue hreported =>
    constructor <;> simp only [hstate, htick, htime, hoverdue, hreported]
    · exact hx.answered
    · exact hx.seized
    · exact hx.overdue
    · exact hx.reported

end Step

/-! ## The contexts of the part -/

section Contexts

variable {s t : State}

theorem State.freeContext_context (s : State) (i j : CtxId) : (s.freeContext i).context j =
    if i = j ∧ (s.context i).live = true then (s.context i).freed else s.context j := by
  by_cases hlive : (s.context i).live = true
  · have hset : (s.freeContext i).context j = (s.setContext i (s.context i).freed).context j := by
      rw [State.freeContext_of_live rfl hlive]
      rfl
    rw [hset, State.setContext_context]
    simp [hlive]
  · rw [State.freeContext_of_free (Bool.eq_false_iff.mpr hlive)]
    simp [hlive]

theorem State.freeContext_mark (s : State) (i j : CtxId) :
    (s.context j).Mark ((s.freeContext i).context j) := by
  rw [State.freeContext_context]
  split
  case isTrue h =>
    obtain ⟨rfl, hlive⟩ := h
    exact .freed hlive
  case isFalse => exact .kept

theorem State.moveContext_context (s : State) (i : CtxId) (c : Choice) (line : TariffLine)
    (quote : Nat) (tier : Tier) (j : CtxId) : (s.moveContext i c line quote tier).context j =
      if i = j ∧ (s.context i).live = true then
        { Context.freezeOwner s c line quote tier (s.context i) with
          crankbacks := (s.context i).crankbacks + 1 }
      else s.context j := by
  by_cases hlive : (s.context i).live = true
  · have hset : (s.moveContext i c line quote tier).context j =
        (s.setContext i { Context.freezeOwner s c line quote tier (s.context i) with
          crankbacks := (s.context i).crankbacks + 1 }).context j := by
      rw [State.moveContext_of_live c line quote tier hlive]
      rfl
    rw [hset, State.setContext_context]
    simp [hlive]
  · have hsame : s.moveContext i c line quote tier = s := by simp [State.moveContext, hlive]
    rw [hsame]
    simp [hlive]

theorem State.admitChoice_context_step (s : State) (p : WalkFor) (c : Choice) (line : TariffLine)
    (quote : Nat) (tier : Tier) (attempts : List Attempt) (j : CtxId) :
    (s.context j).Step ((s.admitChoice p c line quote tier attempts).context j) := by
  cases p with
  | seize terms =>
    simp only [State.admitChoice, State.admitSeizure]
    split
    case h_1 =>
      rw [State.context_congr (State.refuseSeize_ct ..)]
      exact .mark .kept
    case h_2 i rest _ =>
      have hset (x : Context) (code : ResultCode) (fields : List Field) :
          ((((s.setContext i x).setFifo rest).claim c.group).complete code fields).context j
            = if i = j then x else s.context j := by
        rw [← State.setContext_context]
        exact congrArg (·.contexts[j]) (State.complete_ct _ _ _)
      rw [hset]
      split
      case isTrue hij =>
        subst hij
        exact .admitted rfl rfl rfl rfl rfl rfl
      case isFalse => exact .mark .kept
  | crankback i =>
    have hmoved := s.moveContext_context i c line quote tier j
    rw [← State.context_congr (State.complete_ct ..)] at hmoved
    simp only [State.admitChoice]
    rw [hmoved]
    split
    case isTrue h =>
      obtain ⟨rfl, -⟩ := h
      exact .moved rfl rfl rfl rfl rfl rfl
    case isFalse => exact .mark .kept

theorem contextStep_callSteps (s : State) : State.CallSteps (fun u => u.ct = s.ct)
    (fun u => ∀ i, (s.context i).Step (u.context i)) where
  congr _ _ _ _ hct hu := hct.trans hu
  congr_after _ _ _ _ hct hu i := State.context_congr hct i ▸ hu i
  stays _ hu i := by
    rw [State.context_congr hu]
    exact .mark .kept
  pressure _ _ hu := by simpa using hu
  thin _ _ hu := hu
  admission u p c line quote tier attempts _ hu i := by
    rw [← State.context_congr hu]
    exact u.admitChoice_context_step p c line quote tier attempts i
  free u i hu j := by
    rw [← State.context_congr hu]
    exact .mark (u.freeContext_mark i j)

/-- REPORT_CHANGES clears the flag of each context it reports. -/
theorem State.clearChanges_context (taken : List Change) (s : State) (i : CtxId) :
    (taken.foldl State.clearChange s).context i =
      if .context i ∈ taken then { s.context i with overdue := false, overdueReported := true }
      else s.context i := by
  induction taken generalizing s with
  | nil => rfl
  | cons x rest ih =>
    rw [List.foldl_cons, ih]
    cases x with
    | group g => simp [State.clearChange]
    | context j =>
      by_cases hj : j = i
      · subst hj
        simp [State.clearChange]
      · simp [State.clearChange, hj, Ne.symm hj]

theorem State.clearChanges_group (taken : List Change) (s : State) (g : GroupId) :
    (taken.foldl State.clearChange s).group g =
      if .group g ∈ taken then { s.group g with change := .none } else s.group g := by
  induction taken generalizing s with
  | nil => rfl
  | cons x rest ih =>
    rw [List.foldl_cons, ih]
    cases x with
    | context i => simp [State.clearChange]
    | group k =>
      by_cases hk : k = g
      · subst hk
        simp [State.clearChange]
      · simp [State.clearChange, hk, Ne.symm hk]

theorem State.context_mem_changes (s : State) (i : CtxId) :
    .context i ∈ s.changes ↔ (s.context i).overdue = true := by simp [State.changes]

theorem State.group_mem_changes (s : State) (g : GroupId) :
    .group g ∈ s.changes ↔ (s.group g).change ≠ .none := by simp [State.changes]

theorem State.setContext_mark {i : CtxId} {x : Context} (h : (s.context i).Mark x) (j : CtxId) :
    (s.context j).Mark ((s.setContext i x).context j) := by
  rw [State.setContext_context]
  split
  case isTrue hij => exact hij ▸ h
  case isFalse => exact .kept

theorem State.chargeEvent_mark (s : State) (r : PendingRelease) (j : CtxId) :
    (s.context j).Mark ((s.chargeEvent r).context j) := by
  have hmark := State.freeContext_mark ((s.accumulate ((s.context r.ctx).charge r.ctx r)).placeHold
    (.charge ((s.context r.ctx).charge r.ctx r))) r.ctx j
  rwa [State.context_congr (s := s) (by simp)] at hmark

theorem State.RequestChange.contextMark {u : State} {k : RequestKind} (h : s.RequestChange k u)
    (j : CtxId) : (s.context j).Mark (u.context j) := by
  have hsame (hct : u.ct = s.ct) : (s.context j).Mark (u.context j) := by
    rw [State.context_congr hct]
    exact .kept
  cases h with
  | limit => exact .kept
  | reported =>
    rw [State.clearChanges_context]
    split
    case isTrue hmem =>
      exact .reported ((s.context_mem_changes j).mp (List.mem_of_mem_take hmem))
    case isFalse => exact .kept
  | answered i tick hseized => exact State.setContext_mark (.answered tick _ hseized) j
  | released i far =>
    cases far with
    | false => exact s.freeContext_mark i j
    | true =>
      have hmark := State.freeContext_mark (s.pressure (s.context i).group) i j
      rwa [State.context_congr (s := s) (by simp)] at hmark
  | charged r => exact s.chargeEvent_mark r j
  | _ => exact hsame (by simp)

theorem Context.overdueAt_guard {limit : Nat} {now : Tick} {x : Context}
    (h : x.overdueAt limit now = true) :
    x.state = .seized ∧ x.overdue = false ∧ x.overdueReported = false := by
  simp only [overdueAt, Bool.and_eq_true, beq_iff_eq, Bool.not_eq_true'] at h
  obtain ⟨⟨⟨⟨-, hseized⟩, hclear⟩, hunreported⟩, -⟩ := h
  exact ⟨hseized, hclear, hunreported⟩

theorem State.overdueDue_guard {i : CtxId} (h : s.overdueDue i = true) :
    (s.context i).state = .seized ∧ (s.context i).overdue = false ∧
      (s.context i).overdueReported = false := by
  simp only [State.overdueDue, Bool.or_eq_true] at h
  exact h.elim Context.overdueAt_guard Context.overdueAt_guard

theorem State.takeOverdue_mark (s : State) (x : Context) : x.Mark (s.takeOverdue x) := by
  unfold State.takeOverdue
  split
  case isTrue h =>
    obtain ⟨hseized, -, hunreported⟩ := Context.overdueAt_guard h
    exact .overdue hseized hunreported
  case isFalse => exact .kept

theorem State.coldReset_context (s : State) (i : CtxId) : s.coldReset.context i = Context.cold := by
  simp [State.context, State.coldReset, State.reset, ContextTable.cold]

theorem State.Effect.contextStep {c : Instr} (h : s.Effect c t) :
    (∀ j, (s.context j).Step (t.context j)) ∨
      coldResets c = true ∧ ∀ j, t.context j = Context.cold := by
  have hsame (hct : t.ct = s.ct) (j : CtxId) : (s.context j).Step (t.context j) := by
    rw [State.context_congr hct]
    exact .mark .kept
  cases h with
  | chain h => exact .inl (hsame h.frame.ct)
  | journal h => exact .inl (hsame h.frame.ct)
  | routed h => exact .inl (h.calls (contextStep_callSteps s) rfl)
  | completed code fields _ h =>
    refine .inl fun j => ?_
    rw [State.context_congr (State.complete_ct ..)]
    exact .mark (h.contextMark j)
  | releaseResumed r =>
    refine .inl fun j => ?_
    rw [State.context_congr (State.complete_ct ..)]
    exact .mark (s.chargeEvent_mark r j)
  | ticked =>
    refine .inl fun j => ?_
    rw [State.advanceTick_context, State.takeOverdueExpiries_context,
      State.context_congr (State.takeGroupExpiries_ct s)]
    exact .mark (State.takeOverdue_mark _ _)
  | overdue i hdue =>
    obtain ⟨hseized, -, hunreported⟩ := State.overdueDue_guard hdue
    refine .inl fun j => ?_
    rw [State.raise_context]
    exact .mark (State.setContext_mark (.overdue hseized hunreported) j)
  | cold => exact .inr ⟨rfl, s.coldReset_context⟩
  | pinReset => exact .inr ⟨rfl, s.coldReset_context⟩
  | linkReset => exact .inr ⟨rfl, s.coldReset_context⟩
  | _ => exact .inl (hsame (by simp))

theorem Context.cold_marksSound : Context.cold.MarksSound := ⟨nofun, nofun, nofun, nofun⟩

theorem State.Effect.marksSound {c : Instr} (h : s.Effect c t) (hs : s.MarksSound) :
    t.MarksSound := by
  obtain hstep | ⟨-, hcold⟩ := h.contextStep
  · exact fun i => (hstep i).marksSound (hs i)
  · exact fun i => hcold i ▸ Context.cold_marksSound

end Contexts

/-- Settles O59: over the cases of what a command does to one context, only freeing advances the
generation. -/
theorem generationAdvancesAtFreeing : Obligations.GenerationAdvancesAtFreeing := by
  intro c s t i hrun hcold
  obtain hstep | ⟨hreset, -⟩ := (exec_effect hrun).contextStep
  · exact (hstep i).generation
  · rw [hcold] at hreset
    cases hreset

end Sys2Proof.Machine
end

section
/-! BUSY and the free FIFO over every step (R61, R118): the first part of O50. -/

namespace Sys2Proof.Machine

section Calls

variable {s t u : State}

/-- Nothing that BUSY and the FIFO count has changed. -/
structure State.CallsKept (s t : State) : Prop where
  busy : ∀ g, (t.group g).busy = (s.group g).busy
  live : ∀ i, (t.context i).live = (s.context i).live
  group : ∀ i, (t.context i).group = (s.context i).group
  fifo : t.ct.freeFifo = s.ct.freeFifo

theorem State.CallsKept.trans (h : s.CallsKept t) (k : t.CallsKept u) : s.CallsKept u :=
  ⟨fun g => (k.busy g).trans (h.busy g), fun i => (k.live i).trans (h.live i),
    fun i => (k.group i).trans (h.group i), k.fifo.trans h.fifo⟩

theorem State.CallsKept.of_blocks (hgroups : t.groups = s.groups) (hct : t.ct = s.ct) :
    s.CallsKept t where
  busy g := by rw [State.group_congr hgroups]
  live i := by rw [State.context_congr hct]
  group i := by rw [State.context_congr hct]
  fifo := by rw [hct]

theorem State.callsOn_eq_countP_finRange (s : State) (g : GroupId) : s.callsOn g =
    (List.finRange 4096).countP fun i => (s.context i).live && (s.context i).group == g := by
  rw [State.callsOn, ← State.map_context_finRange, List.countP_map]
  rfl

theorem State.CallsKept.callsOn (h : s.CallsKept t) (g : GroupId) : t.callsOn g = s.callsOn g := by
  simp only [State.callsOn_eq_countP_finRange, h.live, h.group]

theorem State.CallsKept.callsSound (h : s.CallsKept t) (hs : s.CallsSound) : t.CallsSound where
  busy g := by rw [h.busy, h.callsOn, hs.busy]
  fifo_nodup := h.fifo ▸ hs.fifo_nodup
  fifo_free i := by rw [h.fifo, h.live]; exact hs.fifo_free i

/-! ## The events that change neither -/

theorem State.setGroup_callsKept {g : GroupId} {r : Group} (h : r.busy = (s.group g).busy) :
    s.CallsKept (s.setGroup g r) where
  busy k := by
    rw [State.setGroup_group]
    split
    case isTrue hk => exact hk ▸ h
    case isFalse => rfl
  live _ := rfl
  group _ := rfl
  fifo := rfl

theorem State.monitor_callsKept {g : GroupId} {x : Group × Bool} (h : x.1.busy = (s.group g).busy) :
    s.CallsKept (s.monitor g x) :=
  (State.setGroup_callsKept h).trans (.of_blocks (by rw [State.monitor_eq]; rfl) (by simp))

theorem State.pressure_callsKept (s : State) (g : GroupId) : s.CallsKept (s.pressure g) :=
  State.monitor_callsKept (Group.pressure_keeps _ _ _).1

theorem State.thin_callsKept (s : State) (g : GroupId) :
    s.CallsKept (s.setGroup g (s.group g).thin.1) :=
  State.setGroup_callsKept (by rw [Group.thin_eq])

theorem State.setContext_callsKept {i : CtxId} {x : Context}
    (hlive : x.live = (s.context i).live) (hgroup : x.group = (s.context i).group) :
    s.CallsKept (s.setContext i x) where
  busy _ := rfl
  live j := by
    rw [State.setContext_context]
    split
    case isTrue hij => exact hij ▸ hlive
    case isFalse => rfl
  group j := by
    rw [State.setContext_context]
    split
    case isTrue hij => exact hij ▸ hgroup
    case isFalse => rfl
  fifo := rfl

theorem State.clearChanges_callsKept (taken : List Change) (s : State) :
    s.CallsKept (taken.foldl State.clearChange s) where
  busy g := by
    rw [State.clearChanges_group]
    split <;> rfl
  live i := by
    rw [State.clearChanges_context]
    split <;> rfl
  group i := by
    rw [State.clearChanges_context]
    split <;> rfl
  fifo := by rw [State.clearChanges_eq]

theorem State.ticked_callsKept (s : State) :
    s.CallsKept s.takeGroupExpiries.takeOverdueExpiries.advanceTick where
  busy g := by
    rw [State.group_congr (State.advanceTick_groups _),
      State.group_congr (State.takeOverdueExpiries_groups _), State.takeGroupExpiries_group]
    exact (Group.takeExpiries_keeps _ _ _).1
  live i := by
    rw [State.advanceTick_context, State.takeOverdueExpiries_context, State.takeOverdue_eq,
      State.context_congr (State.takeGroupExpiries_ct s)]
    rfl
  group i := by
    rw [State.advanceTick_context, State.takeOverdueExpiries_context, State.takeOverdue_eq,
      State.context_congr (State.takeGroupExpiries_ct s)]
  fifo := by
    rw [State.advanceTick, State.takeOverdueExpiries_eq, State.takeGroupExpiries_eq]

/-! ## Freeing, admission and move -/

/-- Replacing a context by one whose call is on the group given, or by one without a call. -/
theorem State.callsOn_replaced {i : CtxId} {x y : Context} (hy : s.context i = y) (g : GroupId) :
    (s.setContext i x).callsOn g + (if y.live = true ∧ y.group = g then 1 else 0) =
      s.callsOn g + (if x.live = true ∧ x.group = g then 1 else 0) := by
  have hcount := s.callsOn_setContext i x g
  simpa only [hy, Bool.and_eq_true, beq_iff_eq] using hcount

theorem State.callsOn_setFifo (s : State) (q : List CtxId) (g : GroupId) :
    (s.setFifo q).callsOn g = s.callsOn g := State.callsOn_congr rfl g

theorem State.callsOn_claim (s : State) (h g : GroupId) : (s.claim h).callsOn g = s.callsOn g :=
  State.callsOn_congr rfl g

theorem State.callsOn_unclaim (s : State) (h g : GroupId) : (s.unclaim h).callsOn g = s.callsOn g :=
  State.callsOn_congr rfl g

theorem State.CallsSound.freeContext (hs : s.CallsSound) (i : CtxId) :
    (s.freeContext i).CallsSound := by
  by_cases hlive : (s.context i).live = true
  · have hfree : s.freeContext i =
        ((s.setContext i (s.context i).freed).setFifo (s.ct.freeFifo ++ [i])).unclaim
          (s.context i).group := by simp [State.freeContext, hlive]
    have hnot : i ∉ s.ct.freeFifo := fun hmem => by simp [(hs.fifo_free i).mp hmem] at hlive
    constructor
    · intro g
      have hcount := State.callsOn_replaced (s := s) (i := i) (x := (s.context i).freed) rfl g
      have hbusy := hs.busy g
      simp only [hlive, Context.freed_live, true_and, Bool.false_eq_true, false_and, if_false] at hcount
      rw [hfree, State.callsOn_unclaim, State.callsOn_setFifo, State.unclaim_group]
      split
      case isTrue hg =>
        rw [if_pos hg] at hcount
        simp only [State.setFifo_group, State.setContext_group, hg]
        omega
      case isFalse hg =>
        rw [if_neg hg] at hcount
        simp only [State.setFifo_group, State.setContext_group]
        omega
    · rw [hfree]
      exact List.nodup_append.mpr ⟨hs.fifo_nodup, List.nodup_singleton i, fun j hj k hk hjk => by
        rw [List.mem_singleton] at hk
        exact hnot (hk ▸ hjk ▸ hj)⟩
    · intro j
      have hmem : j ∈ (s.freeContext i).ct.freeFifo ↔ j ∈ s.ct.freeFifo ∨ j = i := by
        rw [hfree]
        exact List.mem_append.trans (or_congr Iff.rfl List.mem_singleton)
      rw [hmem, State.freeContext_context, hs.fifo_free]
      split
      case isTrue h => exact iff_of_true (.inr h.1.symm) rfl
      case isFalse h =>
        exact or_iff_left fun hji => h ⟨hji.symm, hlive⟩
  · rw [State.freeContext_of_free (Bool.eq_false_iff.mpr hlive)]
    exact hs

/-- The head of the free FIFO becomes a live context on the group claimed (R61, R105). -/
theorem State.CallsSound.admitted (hs : s.CallsSound) {i : CtxId} {rest : List CtxId}
    (hfifo : s.ct.freeFifo = i :: rest) {x : Context} (hlive : x.live = true) :
    (((s.setContext i x).setFifo rest).claim x.group).CallsSound := by
  have hfree : (s.context i).live = false := (hs.fifo_free i).mp (by simp [hfifo])
  have hnodup : i ∉ rest ∧ rest.Nodup := List.nodup_cons.mp (hfifo ▸ hs.fifo_nodup)
  constructor
  · intro g
    have hcount := State.callsOn_replaced (s := s) (x := x) (i := i) rfl g
    have hbusy := hs.busy g
    simp only [hlive, hfree, true_and, Bool.false_eq_true, false_and, if_false] at hcount
    rw [State.callsOn_claim, State.callsOn_setFifo, State.claim_group]
    split
    case isTrue hg =>
      rw [if_pos hg] at hcount
      simp only [State.setFifo_group, State.setContext_group, hg]
      omega
    case isFalse hg =>
      rw [if_neg hg] at hcount
      simp only [State.setFifo_group, State.setContext_group]
      omega
  · exact hnodup.2
  · intro j
    have hold := hs.fifo_free j
    rw [hfifo, List.mem_cons] at hold
    have hcontext : (((s.setContext i x).setFifo rest).claim x.group).context j =
        if i = j then x else s.context j := State.setContext_context s i j x
    have hmem : j ∈ (((s.setContext i x).setFifo rest).claim x.group).ct.freeFifo ↔ j ∈ rest := Iff.rfl
    rw [hcontext, hmem]
    split
    case isTrue hij =>
      subst hij
      exact iff_of_false hnodup.1 (by simp [hlive])
    case isFalse hij =>
      rw [← hold]
      exact (or_iff_right (Ne.symm hij)).symm

theorem State.CallsSound.busy_pos (hs : s.CallsSound) {i : CtxId}
    (hlive : (s.context i).live = true) : 1 ≤ (s.group (s.context i).group).busy := by
  have hcount := State.callsOn_replaced (s := s) (i := i) (x := (s.context i).freed) rfl
    (s.context i).group
  simp only [hlive, Context.freed_live, true_and, Bool.false_eq_true, false_and, if_false,
    if_true] at hcount
  have hbusy := hs.busy (s.context i).group
  omega

/-- A live context that becomes another live one takes its call from its group to the other's. -/
theorem State.CallsSound.busy_moved (hs : s.CallsSound) {i : CtxId} {x : Context}
    (hlive : (s.context i).live = true) (hx : x.live = true) (g : GroupId) :
    ((((s.setContext i x).unclaim (s.context i).group).claim x.group).group g).busy =
      (s.setContext i x).callsOn g := by
  have hcount := State.callsOn_replaced (s := s) (i := i) (x := x) rfl g
  have hpos := hs.busy_pos hlive
  have hbusy := hs.busy g
  simp only [hlive, hx, true_and] at hcount
  simp only [State.claim_group, State.unclaim_group, State.setContext_group]
  by_cases hto : x.group = g <;> by_cases hfrom : (s.context i).group = g
  · rw [if_pos hto, if_pos (hfrom.trans hto.symm)]
    rw [hfrom] at hpos
    simp only [hto, hfrom, if_true] at hcount ⊢
    omega
  · rw [if_pos hto, if_neg (hto ▸ hfrom), hto]
    simp only [hto, hfrom, if_true, if_false] at hcount ⊢
    omega
  · rw [if_neg hto, if_pos hfrom]
    rw [hfrom] at hpos
    simp only [hto, hfrom, if_true, if_false] at hcount ⊢
    omega
  · rw [if_neg hto, if_neg hfrom]
    simp only [hto, hfrom, if_false] at hcount ⊢
    omega

theorem State.CallsSound.moveContext (hs : s.CallsSound) (i : CtxId) (c : Choice)
    (line : TariffLine) (quote : Nat) (tier : Tier) :
    (s.moveContext i c line quote tier).CallsSound := by
  by_cases hlive : (s.context i).live = true
  · constructor
    · intro g
      rw [State.moveContext_of_live c line quote tier hlive, State.callsOn_claim,
        State.callsOn_unclaim]
      exact hs.busy_moved (x := { Context.freezeOwner s c line quote tier (s.context i) with
        crankbacks := (s.context i).crankbacks + 1 }) hlive hlive g
    · rw [State.moveContext_of_live c line quote tier hlive]
      exact hs.fifo_nodup
    · intro j
      have hcontext : ((s.moveContext i c line quote tier).context j).live = (s.context j).live := by
        rw [State.moveContext_context]
        split
        case isTrue h => exact h.1 ▸ rfl
        case isFalse => rfl
      rw [hcontext, ← hs.fifo_free, State.moveContext_of_live c line quote tier hlive]
      exact Iff.rfl
  · have hsame : s.moveContext i c line quote tier = s := by simp [State.moveContext, hlive]
    rw [hsame]
    exact hs

theorem State.CallsSound.admitChoice (hs : s.CallsSound) (p : WalkFor) (c : Choice)
    (line : TariffLine) (quote : Nat) (tier : Tier) (attempts : List Attempt) :
    (s.admitChoice p c line quote tier attempts).CallsSound := by
  have hcompleted {v : State} (hv : v.CallsSound) (code : ResultCode) (fields : List Field) :
      (v.complete code fields).CallsSound :=
    (State.CallsKept.of_blocks (by simp) (by simp)).callsSound hv
  cases p with
  | seize terms =>
    simp only [State.admitChoice, State.admitSeizure]
    split
    case h_1 => exact hcompleted hs _ _
    case h_2 i rest hfifo => exact hcompleted (hs.admitted hfifo rfl) _ _
  | crankback i => exact hcompleted (hs.moveContext i c line quote tier) _ _

theorem callsSound_callSteps : State.CallSteps State.CallsSound State.CallsSound where
  congr _ _ hgroups _ hct hs := (State.CallsKept.of_blocks hgroups hct).callsSound hs
  congr_after _ _ hgroups _ hct hs := (State.CallsKept.of_blocks hgroups hct).callsSound hs
  stays _ hs := hs
  pressure u g hs := (u.pressure_callsKept g).callsSound hs
  thin u g hs := (u.thin_callsKept g).callsSound hs
  admission _ p c line quote tier attempts _ hs := hs.admitChoice p c line quote tier attempts
  free _ i hs := hs.freeContext i

/-! ## The commands -/

theorem State.CallsSound.chargeEvent (hs : s.CallsSound) (r : PendingRelease) :
    (s.chargeEvent r).CallsSound :=
  State.CallsSound.freeContext (s := (s.accumulate ((s.context r.ctx).charge r.ctx r)).placeHold
    (.charge ((s.context r.ctx).charge r.ctx r)))
    ((State.CallsKept.of_blocks (by simp) (by simp)).callsSound hs) r.ctx

theorem State.RequestChange.callsSound {k : RequestKind} (h : s.RequestChange k u)
    (hs : s.CallsSound) : u.CallsSound := by
  have hsame (hgroups : u.groups = s.groups) (hct : u.ct = s.ct) : u.CallsSound :=
    (State.CallsKept.of_blocks hgroups hct).callsSound hs
  cases h with
  | group q =>
    refine (State.setGroup_callsKept ?_).callsSound hs
    rw [GroupRequest.apply_eq]
    rfl
  | limit => exact ⟨hs.busy, hs.fifo_nodup, hs.fifo_free⟩
  | reported => exact (State.clearChanges_callsKept _ s).callsSound hs
  | answered i tick hseized =>
    exact (State.setContext_callsKept (x := { s.context i with
      state := .answered, answerTick := some tick, answerTime := some s.tb.timeOfWeek,
      overdue := false, overdueReported := false })
      (Context.live_of_seized hseized).symm rfl).callsSound hs
  | released i far =>
    cases far with
    | false => exact hs.freeContext i
    | true => exact ((s.pressure_callsKept _).callsSound hs).freeContext i
  | charged r => exact hs.chargeEvent r
  | _ => exact hsame (by simp) (by simp)

theorem State.coldReset_freeFifo (s : State) : s.coldReset.ct.freeFifo = List.finRange 4096 := by
  simp [State.coldReset, State.reset, ContextTable.cold]

theorem State.coldReset_callsSound (s : State) : s.coldReset.CallsSound where
  busy g := by
    have hcold : s.coldReset.callsOn g = 0 := by
      rw [State.callsOn_eq_countP_finRange, List.countP_eq_zero]
      intro i _
      rw [State.coldReset_context]
      simp [Context.live, Context.cold]
    rw [hcold]
    simp [State.group, State.coldReset, State.reset, Group.cold]
  fifo_nodup := by
    rw [State.coldReset_freeFifo]
    exact List.nodup_finRange 4096
  fifo_free i := by
    rw [State.coldReset_context, State.coldReset_freeFifo]
    exact iff_of_true (List.mem_finRange i) rfl

theorem State.Effect.callsSound {c : Instr} (h : s.Effect c t) (hs : s.CallsSound) :
    t.CallsSound := by
  have hsame {u v : State} (hu : u.CallsSound) (hgroups : v.groups = u.groups) (hct : v.ct = u.ct) :
      v.CallsSound := (State.CallsKept.of_blocks hgroups hct).callsSound hu
  cases h with
  | chain h => exact hsame hs h.frame.groups h.frame.ct
  | journal h => exact hsame hs h.frame.groups h.frame.ct
  | routed h => exact h.calls callsSound_callSteps hs
  | completed code fields _ h => exact hsame (h.callsSound hs) (by simp) (by simp)
  | releaseResumed r => exact hsame (hs.chargeEvent r) (by simp) (by simp)
  | ticked => exact s.ticked_callsKept.callsSound hs
  | quietExpired g =>
    exact (State.monitor_callsKept (Group.quietExpiry_keeps _ _ _).1).callsSound hs
  | holdOffEnded g => exact (State.setGroup_callsKept (r := (s.group g).endHoldOff) rfl).callsSound hs
  | overdue i =>
    have hset : s.CallsKept (s.setContext i { s.context i with overdue := true }) :=
      State.setContext_callsKept rfl rfl
    exact hsame (hset.callsSound hs) (by simp) (by simp)
  | cold => exact s.coldReset_callsSound
  | pinReset => exact hsame s.coldReset_callsSound rfl rfl
  | linkReset => exact hsame s.coldReset_callsSound rfl rfl
  | _ => exact hsame hs (by simp) (by simp)

end Calls

end Sys2Proof.Machine
end

section
/-! The ranges of the contexts, and of what the request in hand will freeze into one (R117): the third
part of O50. -/

namespace Sys2Proof.Machine

section Ranges

variable {s t u : State}

/-! ## What tables and operands can bring -/

theorem leNat_two_le (line : List Byte) (offset : Nat) : leNat line offset 2 ≤ 65535 :=
  Nat.le_of_lt_succ (leNat_lt line offset 2)

theorem leNat_three_le (line : List Byte) (offset : Nat) : leNat line offset 3 ≤ 16777215 :=
  Nat.le_of_lt_succ (leNat_lt line offset 3)

theorem choicesOf_inRange {bytes : List Byte} {choices : List Choice}
    (h : choicesOf bytes = some choices) : ∀ c ∈ choices, c.InRange := by
  unfold choicesOf at h
  simp only at h
  split at h
  case isTrue => cases h
  case isFalse =>
    cases h
    intro c hc
    obtain ⟨n, hn, rfl⟩ := List.mem_map.mp hc
    obtain ⟨h1, h2⟩ := List.mem_range'_1.mp hn
    exact ⟨h1, show n ≤ 6 by omega⟩

theorem choicesOf_getD_inRange (bytes : List Byte) :
    ∀ c ∈ (choicesOf bytes).getD [], c.InRange := by
  intro c hmem
  cases hchoices : choicesOf bytes with
  | none => simp [hchoices] at hmem
  | some choices =>
    rw [hchoices] at hmem
    exact choicesOf_inRange hchoices c hmem

theorem analyse_routeList_le (key : Nat) (dialled : List Nat) (bytes : List Byte) :
    (analyse key dialled (areaEntryOf bytes)).routeList ≤ 2047 := by
  unfold analyse
  split
  case h_1 r n hwinner =>
    obtain ⟨m, -, hwins⟩ := winsAt_of_winningRefinement hwinner
    obtain ⟨k, -, rfl⟩ := List.mem_map.mp (List.mem_of_getElem? hwins.at_index)
    exact Nat.le_of_lt_succ (Nat.mod_lt _ (by decide))
  case h_2 => exact Nat.le_of_lt_succ (Nat.mod_lt _ (by decide))

theorem FetchedCell.addressForm_override {c : FetchedCell} {n : Nat} {d : Distance}
    (h : c.addressForm = some (.override n d)) : n ≤ 2047 := by
  unfold FetchedCell.addressForm at h
  split at h
  case h_1 =>
    simp only at h
    split at h <;> cases h
  case h_2 =>
    split at h
    case h_1 =>
      split at h
      case isTrue hlt =>
        cases h
        omega
      case isFalse => cases h
    case h_2 => cases h
  case h_3 => cases h

theorem FetchedCell.seizeRequest_inRange {c : FetchedCell} {q : SeizeRequest}
    (h : c.seizeRequest = some q) : q.InRange := by
  unfold FetchedCell.seizeRequest at h
  split at h
  case h_1 incoming cls address hin hcls haddress =>
    cases h
    refine ⟨Nat.le_of_lt_succ (c.operand_lt 20 4), fun n d hoverride => ?_⟩
    exact FetchedCell.addressForm_override (haddress.trans (congrArg some hoverride))
  case h_2 => cases h

/-! ## Contexts -/

theorem Context.cold_inRange : Context.cold.InRange := by
  constructor <;> simp [Context.cold, Context.live]

theorem Context.InRange.freed {x : Context} (hx : x.InRange) : x.freed.InRange :=
  { hx with live := nofun }

theorem Context.Mark.inRange {x y : Context} (h : x.Mark y) (hx : x.InRange) : y.InRange := by
  cases h with
  | kept => exact hx
  | freed => exact hx.freed
  | answered _ _ hseized => exact { hx with live := fun _ => hx.live (Context.live_of_seized hseized) }
  | overdue => exact { hx with live := hx.live }
  | reported => exact { hx with live := hx.live }

theorem State.effMinSeconds_le (hs : ∀ c, (s.agreement c).InRange) (c : CarrierId) :
    s.effMinSeconds c ≤ 600 := by
  unfold State.effMinSeconds State.termSource
  split
  · exact (hs c).minSeconds
  · exact (hs 0).minSeconds

theorem State.effIncrement_bounds (hs : ∀ c, (s.agreement c).InRange) (c : CarrierId) :
    1 ≤ s.effIncrement c ∧ s.effIncrement c ≤ 60 := by
  unfold State.effIncrement State.termSource
  split
  · exact (hs c).increment
  · exact (hs 0).increment

theorem State.effPremium_le (hs : ∀ c, (s.agreement c).InRange) (c : CarrierId) (tier : Tier) :
    (s.effPremium c)[tier] ≤ 255 := by
  unfold State.effPremium State.termSource
  split
  · exact ((hs c).premium tier).2
  · exact ((hs 0).premium tier).2

/-- The greatest quote is that of the greatest rate at the greatest premium (R143). -/
theorem quoteOf_le {rate premium : Nat} (hrate : rate ≤ 16777215) (hpremium : premium ≤ 255) :
    quoteOf rate premium ≤ 33423358 := by
  have hproduct : rate * premium ≤ 16777215 * 255 := Nat.mul_le_mul hrate hpremium
  unfold quoteOf
  omega

theorem State.choiceQuote_le (hs : ∀ c, (s.agreement c).InRange) (g : GroupId) (bytes : List Byte) :
    s.choiceQuote g (tariffLineOf bytes) ≤ 33423358 :=
  quoteOf_le (leNat_three_le bytes 4) (State.effPremium_le hs _ _)

/-- What the owner side freezes is in range (R105, R113). -/
theorem Context.freezeOwner_inRange (hs : ∀ c, (s.agreement c).InRange) {c : Choice}
    (hc : c.InRange) (bytes : List Byte) {quote : Nat} (hquote : quote ≤ 33423358) (tier : Tier)
    {x : Context} (hx : x.freed.InRange) (hinc : 1 ≤ x.incIn) :
    (Context.freezeOwner s c (tariffLineOf bytes) quote tier x).InRange :=
  { ceiling := hx.ceiling
    routeList := hx.routeList
    transitRate := hx.transitRate
    transitSetup := hx.transitSetup
    minIn := hx.minIn
    incIn := hx.incIn
    crankbacks := hx.crankbacks
    choice := hc.2
    quote := hquote
    handoverSetup := leNat_two_le bytes 2
    minOut := State.effMinSeconds_le hs _
    incOut := (State.effIncrement_bounds hs _).2
    live := fun _ => ⟨hinc, (State.effIncrement_bounds hs _).1, hc.1⟩ }

/-! ## The state before and after a request's event -/

/-- A request is about to take an event: no fill is in flight, and contexts and agreements are in range.
-/
structure State.CallReady (s : State) : Prop where
  contexts : ∀ i, (s.context i).InRange
  agreements : ∀ c, (s.agreement c).InRange
  fill : s.tau.fill = none

theorem State.CallReady.congr (h : s.CallReady) (hct : t.ct = s.ct) (hagr : t.agr = s.agr)
    (htau : t.tau = s.tau) : t.CallReady where
  contexts i := State.context_congr hct i ▸ h.contexts i
  agreements c := State.agreement_congr hagr c ▸ h.agreements c
  fill := htau ▸ h.fill

theorem WalkFor.inRange_congr (hct : t.ct = s.ct) {p : WalkFor} (h : p.InRange s) : p.InRange t := by
  cases p with
  | seize terms => exact h
  | crankback i =>
    rw [WalkFor.InRange, State.context_congr hct]
    exact h

/-- A state in which the request in hand freezes nothing more. -/
theorem State.contextsInRange_of_done (hcontexts : ∀ i, (s.context i).InRange)
    (hfill : s.tau.fill = none) (hwork : s.cc.work = .completing) : s.ContextsInRange where
  contexts := hcontexts
  fill f hf := by
    rw [hfill] at hf
    cases hf
  walk p attempts choices h := by
    rw [hwork] at h
    cases h

theorem State.CallReady.complete (h : s.CallReady) (code : ResultCode) (fields : List Field) :
    (s.complete code fields).ContextsInRange := by
  refine State.contextsInRange_of_done (fun i => ?_) ?_ ?_
  · rw [State.context_congr (State.complete_ct ..)]
    exact h.contexts i
  · rw [State.complete_tau]
    exact h.fill
  · rw [State.complete_cc]

theorem State.CallReady.walkOn (h : s.CallReady) {p : WalkFor} (hp : p.InRange s)
    (attempts : List Attempt) {choices : List Choice} (hchoices : ∀ c ∈ choices, c.InRange) :
    (s.walkOn p attempts choices).ContextsInRange where
  contexts := h.contexts
  fill f hf := by
    have hnone : (s.walkOn p attempts choices).tau.fill = none := h.fill
    rw [hnone] at hf
    cases hf
  walk _ _ _ heq := by
    cases heq
    exact ⟨WalkFor.inRange_congr rfl hp, hchoices⟩

theorem Requester.inRange_congr (hct : t.ct = s.ct) {r : Requester} (h : r.InRange s) :
    r.InRange t := by
  cases r with
  | crankRoute i => exact WalkFor.inRange_congr (p := .crankback i) hct h
  | owner w => exact ⟨WalkFor.inRange_congr hct h.1, h.2⟩
  | _ => exact h

theorem State.CallReady.startFill (h : s.CallReady) (tag : Tag) {r : Requester}
    (hr : r.InRange s) : (s.startFill tag r).ContextsInRange where
  contexts := h.contexts
  fill f hf := by
    cases hf
    exact Requester.inRange_congr rfl hr
  walk _ _ _ heq := by cases heq

theorem State.CallReady.considered (h : s.Considered t) (hs : s.CallReady) : t.CallReady := by
  rw [h.frame]
  exact hs.congr rfl rfl rfl

theorem State.Considered.ct (h : s.Considered t) : t.ct = s.ct := by rw [h.frame]

/-! ## Admission, move and freeing -/

theorem State.CallReady.freeContext (h : s.CallReady) (i : CtxId) : (s.freeContext i).CallReady where
  contexts j := (State.freeContext_mark s i j).inRange (h.contexts j)
  agreements c := State.agreement_congr (s.freeContext_agr i) c ▸ h.agreements c
  fill := (congrArg TableAccess.fill (s.freeContext_tau i)).trans h.fill

theorem State.CallReady.endCrankback (h : s.CallReady) (i : CtxId) (code : ResultCode)
    (attempts : List Attempt) : (s.endCrankback i code attempts).ContextsInRange :=
  (h.freeContext i).complete _ _

theorem admittedContext_inRange (h : s.CallReady) {terms : SeizeTerms} (hterms : terms.InRange)
    {c : Choice} (hc : c.InRange) (bytes : List Byte) {quote : Nat} (hquote : quote ≤ 33423358)
    (tier : Tier) (generation : BitVec 4) :
    (admittedContext s terms c (tariffLineOf bytes) quote tier generation).InRange := by
  obtain ⟨hceiling, hlist, hrate, hsetup⟩ := hterms
  have hincrement := State.effIncrement_bounds h.agreements terms.call.incoming
  refine Context.freezeOwner_inRange h.agreements hc bytes hquote tier ?_ hincrement.1
  exact { Context.cold_inRange with
    ceiling := hceiling, routeList := hlist, transitRate := hrate, transitSetup := hsetup
    minIn := State.effMinSeconds_le h.agreements _
    incIn := hincrement.2
    live := nofun }

theorem State.CallReady.admitSeizure (h : s.CallReady) {terms : SeizeTerms} (hterms : terms.InRange)
    {c : Choice} (hc : c.InRange) (bytes : List Byte) {quote : Nat} (hquote : quote ≤ 33423358)
    (tier : Tier) (attempts : List Attempt) :
    (s.admitSeizure terms c (tariffLineOf bytes) quote tier attempts).ContextsInRange := by
  unfold State.admitSeizure
  split
  case h_1 => exact h.complete _ _
  case h_2 i rest hfifo =>
    refine State.CallReady.complete (s := ((s.setContext i (admittedContext s terms c
      (tariffLineOf bytes) quote tier (s.context i).generation)).setFifo rest).claim c.group)
      ⟨fun j => ?_, h.agreements, h.fill⟩ _ _
    change ((s.setContext i _).context j).InRange
    rw [State.setContext_context]
    split
    case isTrue => exact admittedContext_inRange h hterms hc bytes hquote tier _
    case isFalse => exact h.contexts j

theorem State.CallReady.moveContext (h : s.CallReady) {i : CtxId}
    (hi : WalkFor.InRange s (.crankback i)) {c : Choice} (hc : c.InRange) (bytes : List Byte)
    {quote : Nat} (hquote : quote ≤ 33423358) (tier : Tier) :
    (s.moveContext i c (tariffLineOf bytes) quote tier).CallReady := by
  have hlive := Context.live_of_seized hi.1
  refine ⟨fun j => ?_, ?_, ?_⟩
  · rw [State.moveContext_context]
    split
    case isTrue =>
      have hrange := Context.freezeOwner_inRange h.agreements hc bytes hquote tier (h.contexts i).freed
        ((h.contexts i).live hlive).1
      exact { hrange with
        crankbacks := Nat.succ_le_succ hi.2
        live := hrange.live }
    case isFalse => exact h.contexts j
  · rw [State.moveContext_of_live c _ quote tier hlive]
    exact h.agreements
  · rw [State.moveContext_of_live c _ quote tier hlive]
    exact h.fill

theorem State.CallReady.admitChoice (h : s.CallReady) {p : WalkFor} (hp : p.InRange s)
    {c : Choice} (hc : c.InRange) (bytes : List Byte) {quote : Nat} (hquote : quote ≤ 33423358)
    (tier : Tier) (attempts : List Attempt) :
    (s.admitChoice p c (tariffLineOf bytes) quote tier attempts).ContextsInRange := by
  cases p with
  | seize terms => exact h.admitSeizure hp hc bytes hquote tier _
  | crankback i => exact (h.moveContext hp hc bytes hquote tier).complete _ _

/-! ## The walk -/

/-- A choice that passes has the quote of its line at the checks (R101). -/
theorem secondPart_quote {p : WalkFor} {c : Choice} {line : TariffLine} {quote : Nat} {tier : Tier}
    (h : secondPart p c line s = .passed quote tier t) : quote = s.choiceQuote c.group line := by
  unfold secondPart at h
  simp only at h
  split_ifs at h <;> cases h <;> rfl

/-- What a walk carries is in range, its choice in hand among it. -/
def Walk.InRange (s : State) (w : Walk) : Prop :=
  w.purpose.InRange s ∧ w.current.InRange ∧ ∀ c ∈ w.rest, c.InRange

theorem State.CallReady.reject (h : s.CallReady) {w : Walk} (hw : w.InRange s) (reason : Reason) :
    (w.reject reason s).ContextsInRange := h.walkOn hw.1 _ hw.2.2

theorem State.CallReady.resume (h : s.CallReady) {w : Walk} (hw : w.InRange s) (bytes : List Byte) :
    (w.resume bytes s).ContextsInRange := by
  obtain ⟨hpurpose, hcurrent, hrest⟩ := hw
  unfold Walk.resume
  split
  case h_1 reason t hrejected =>
    have hconsidered := (secondPart_considered .refl).1 _ _ hrejected
    exact (h.considered hconsidered).reject
      ⟨WalkFor.inRange_congr hconsidered.ct hpurpose, hcurrent, hrest⟩ reason
  case h_2 quote tier t hpassed =>
    have hconsidered := (secondPart_considered .refl).2 _ _ _ hpassed
    refine (h.considered hconsidered).admitChoice (WalkFor.inRange_congr hconsidered.ct hpurpose)
      hcurrent bytes ?_ tier _
    rw [secondPart_quote hpassed]
    exact State.choiceQuote_le h.agreements _ _

theorem State.CallReady.evaluate (h : s.CallReady) {w : Walk} (hw : w.InRange s) :
    (w.evaluate s).ContextsInRange := by
  unfold Walk.evaluate
  split
  case h_1 reason _ => exact h.reject hw reason
  case h_2 =>
    split
    case h_1 bytes _ => exact h.resume hw bytes
    case h_2 => exact h.startFill _ hw

theorem State.CallReady.walkEvent (h : s.CallReady) {p : WalkFor} (hp : p.InRange s)
    (attempts : List Attempt) {choices : List Choice} (hchoices : ∀ c ∈ choices, c.InRange) :
    (s.walkEvent p attempts choices).ContextsInRange := by
  cases choices with
  | nil =>
    cases p with
    | seize terms => exact h.complete _ _
    | crankback i => exact h.endCrankback i _ _
  | cons c rest =>
    obtain ⟨hc, hrest⟩ := List.forall_mem_cons.mp hchoices
    exact h.evaluate ⟨hp, hc, hrest⟩

/-! ## The stages of a SEIZE and the first event of a CRANKBACK -/

theorem State.CallReady.seizeOnRoute (h : s.CallReady) {terms : SeizeTerms} (hterms : terms.InRange)
    (bytes : List Byte) : (seizeOnRoute terms bytes s).ContextsInRange := by
  unfold Machine.seizeOnRoute
  split
  case h_1 => exact h.complete _ _
  case h_2 choices hchoices =>
    exact h.walkOn (p := .seize terms) hterms [] (choicesOf_inRange hchoices)

theorem State.CallReady.seizeRoute (h : s.CallReady) {terms : SeizeTerms} (hterms : terms.InRange) :
    (seizeRoute terms s).ContextsInRange := by
  unfold Machine.seizeRoute
  split
  case isTrue => exact h.complete _ _
  case isFalse =>
    split
    case h_1 bytes _ => exact h.seizeOnRoute hterms bytes
    case h_2 => exact h.startFill (r := .route terms) _ hterms

theorem State.CallReady.seizeOnTransit (h : s.CallReady) {q : SeizeCall} (hq : q.InRange)
    {a : Analysis} (ha : a.routeList ≤ 2047) (band : Band) (bytes : List Byte) :
    (seizeOnTransit q a band bytes s).ContextsInRange := by
  unfold Machine.seizeOnTransit
  simp only
  split
  case isTrue => exact h.seizeRoute ⟨hq, ha, leNat_three_le bytes 10, leNat_two_le bytes 8⟩
  case isFalse => exact h.complete _ _

theorem State.CallReady.seizeTransit (h : s.CallReady) {q : SeizeCall} (hq : q.InRange)
    {a : Analysis} (ha : a.routeList ≤ 2047) : (seizeTransit q a s).ContextsInRange := by
  unfold Machine.seizeTransit
  simp only
  split
  case h_1 bytes _ => exact h.seizeOnTransit hq ha _ bytes
  case h_2 => exact h.startFill (r := .transit q a _) _ ⟨hq, ha⟩

theorem State.CallReady.seizeOnArea (h : s.CallReady) {q : SeizeCall} (hq : q.InRange) (key : Nat)
    (dialled : List Nat) (bytes : List Byte) :
    (seizeOnArea q key dialled bytes s).ContextsInRange := by
  unfold Machine.seizeOnArea
  simp only
  split
  case isTrue => exact h.seizeTransit hq (analyse_routeList_le key dialled bytes)
  case isFalse => exact h.complete _ _

theorem State.CallReady.seizeDestination (h : s.CallReady) {q : SeizeRequest} (hq : q.InRange) :
    (seizeDestination q s).ContextsInRange := by
  unfold Machine.seizeDestination
  split
  case h_1 n d haddress => exact h.seizeTransit hq.1 (hq.2 n d haddress)
  case h_2 dialled _ =>
    split
    case isTrue => exact h.complete _ _
    case isFalse =>
      simp only
      split
      case h_1 bytes _ => exact h.seizeOnArea hq.1 _ dialled bytes
      case h_2 => exact h.startFill (r := .area q) _ hq

theorem State.CallReady.seizeCell (h : s.CallReady) (c : FetchedCell) :
    (seizeCell c s).ContextsInRange := by
  unfold Machine.seizeCell
  split
  case h_1 => exact h.complete _ _
  case h_2 q hq =>
    split_ifs
    · exact h.complete _ _
    · exact h.complete _ _
    · exact h.complete _ _
    · exact h.seizeDestination (FetchedCell.seizeRequest_inRange hq)

theorem State.CallReady.crankOnRoute (h : s.CallReady) {i : CtxId}
    (hi : WalkFor.InRange s (.crankback i)) {choices : Option (List Choice)}
    (hchoices : ∀ c ∈ choices.getD [], c.InRange) : (crankOnRoute i choices s).ContextsInRange :=
  h.walkOn hi [] fun c hc => hchoices c (List.mem_of_mem_drop hc)

theorem State.CallReady.crankRoute (h : s.CallReady) {i : CtxId}
    (hi : WalkFor.InRange s (.crankback i)) : (crankRoute i s).ContextsInRange := by
  unfold Machine.crankRoute
  simp only
  split
  case isTrue => exact h.crankOnRoute hi nofun
  case isFalse =>
    split
    case h_1 bytes _ => exact h.crankOnRoute hi (choicesOf_getD_inRange bytes)
    case h_2 => exact h.startFill (r := .crankRoute i) _ hi

theorem State.CallReady.crankbackCell (h : s.CallReady) (c : FetchedCell) :
    (crankbackCell c s).ContextsInRange := by
  unfold Machine.crankbackCell
  simp only
  split
  case isTrue => exact h.complete _ _
  case isFalse hvalid =>
    split
    case isTrue => exact h.complete _ _
    case isFalse hstate =>
      have hpressed : s.Considered (s.pressure (s.context (handleIndex (c.operand 16 2))).group) :=
        .pressure _ .refl
      split
      case isTrue => exact (h.considered hpressed).endCrankback _ _ _
      case isFalse hlimit =>
        refine (h.considered hpressed).crankRoute (WalkFor.inRange_congr hpressed.ct ⟨?_, by omega⟩)
        have hlive := ((State.handleValid_iff rfl).mp (by simpa using hvalid)).1
        cases hcall : (s.context (handleIndex (c.operand 16 2))).state with
        | free => exact absurd hcall hlive
        | seized => rfl
        | answered => exact absurd hcall hstate

/-! ## The ends of a fill -/

theorem Requester.InRange.onLine (h : s.CallReady) {r : Requester} (hr : r.InRange s)
    (bytes : List Byte) : (r.onLine bytes s).ContextsInRange := by
  cases r with
  | area q => exact h.seizeOnArea hr.1 _ _ bytes
  | transit q a band => exact h.seizeOnTransit hr.1 hr.2 band bytes
  | route terms => exact h.seizeOnRoute hr bytes
  | crankRoute i => exact h.crankOnRoute hr (choicesOf_getD_inRange bytes)
  | owner w => exact h.resume hr bytes

theorem Requester.InRange.onFault (h : s.CallReady) {r : Requester} (hr : r.InRange s) :
    (r.onFault s).ContextsInRange := by
  cases r with
  | crankRoute i => exact h.endCrankback i _ _
  | owner w => exact h.reject hr _
  | _ => exact h.complete _ _

/-! ## The commands -/

/-- No walk begins and no fill is asked for. -/
structure State.NothingAsked (s t : State) : Prop where
  walk : ∀ p attempts choices, t.cc.work = .walking p attempts choices →
    s.cc.work = .walking p attempts choices
  fill : ∀ f, t.tau.fill = some f → s.tau.fill = some f

theorem State.NothingAsked.of_eq (hcc : t.cc = s.cc) (htau : t.tau = s.tau) : s.NothingAsked t :=
  ⟨fun p attempts choices h => by rwa [← hcc], fun f h => by rwa [← htau]⟩

theorem State.writeAnchor_work (s : State) (half : AnchorHalf) (value : Word32) :
    (s.writeAnchor half value).cc.work = s.cc.work := by
  unfold State.writeAnchor
  cases half <;> split <;> rfl

theorem State.nudgeChain_work (s : State) : s.nudgeChain.cc.work = s.cc.work := by
  unfold State.nudgeChain
  split
  case h_1 => rw [State.readLink_cc]
  all_goals rfl

theorem State.dispatchCell_work (s : State) (cell : FetchedCell) :
    (s.dispatchCell cell).cc.work = .dispatched ∨ (s.dispatchCell cell).cc.work = .completing := by
  unfold State.dispatchCell
  simp only
  split
  · rw [State.enterChain_cc]
    exact .inl rfl
  · rw [State.complete_cc]
    exact .inr rfl

theorem State.ChainEffect.asksNothing {c : Instr} (h : s.ChainEffect c t) : s.NothingAsked t := by
  refine ⟨fun p attempts choices hwork => ?_, fun f hf => by rwa [← h.frame.tau]⟩
  cases h with
  | anchorAsked => rwa [State.readAnchor_cc] at hwork
  | stopped => rw [State.chainIdle_cc] at hwork; cases hwork
  | faultLeft => rw [State.chainIdle_cc] at hwork; cases hwork
  | anchorWritten half => rwa [State.writeAnchor_work] at hwork
  | headTaken => rwa [State.fetchCell_cc] at hwork
  | dispatched a data =>
    obtain hdone | hdone := s.dispatchCell_work (fetchedCellOf data) <;>
    · rw [hdone] at hwork
      cases hwork
  | completedToIdle => rw [State.chainIdle_cc] at hwork; cases hwork
  | completedToLink => rw [State.readLink_cc] at hwork; cases hwork
  | linkStopped => rw [State.chainIdle_cc] at hwork; cases hwork
  | linkReread => rwa [State.readLink_cc] at hwork
  | linkAwaited => rwa [State.enterChain_cc] at hwork
  | retired => rwa [State.retire, State.writeRetireMark_cc] at hwork
  | nextTaken => rwa [State.fetchCell_cc] at hwork
  | faulted => rw [State.chainFault_cc] at hwork; cases hwork
  | releaseStalled => rw [State.enterChain_cc] at hwork; cases hwork
  | closeStalled => rw [State.enterChain_cc] at hwork; cases hwork
  | _ => exact hwork

/-- Each context keeps its range, its state and its crankback count. -/
structure Context.Carries (x y : Context) : Prop where
  inRange : x.InRange → y.InRange
  state : y.state = x.state
  crankbacks : y.crankbacks = x.crankbacks

theorem Context.Carries.refl (x : Context) : x.Carries x := ⟨id, rfl, rfl⟩

theorem Context.overdue_carries (x : Context) (overdue : Bool) :
    x.Carries { x with overdue := overdue } :=
  ⟨fun hx => { hx with live := hx.live }, rfl, rfl⟩

theorem WalkFor.InRange.carried (hcalls : ∀ i, (s.context i).Carries (t.context i)) {p : WalkFor}
    (h : p.InRange s) : p.InRange t := by
  cases p with
  | seize terms => exact h
  | crankback i => exact ⟨(hcalls i).state.trans h.1, (hcalls i).crankbacks.trans_le h.2⟩

theorem Requester.InRange.carried (hcalls : ∀ i, (s.context i).Carries (t.context i))
    {r : Requester} (h : r.InRange s) : r.InRange t := by
  cases r with
  | crankRoute i => exact WalkFor.InRange.carried (p := .crankback i) hcalls h
  | owner w => exact ⟨h.1.carried hcalls, h.2⟩
  | _ => exact h

theorem State.ContextsInRange.carried (hs : s.ContextsInRange) (hasked : s.NothingAsked t)
    (hcalls : ∀ i, (s.context i).Carries (t.context i)) : t.ContextsInRange where
  contexts i := (hcalls i).inRange (hs.contexts i)
  fill f hf := (hs.fill f (hasked.fill f hf)).carried hcalls
  walk p attempts choices hwork := by
    obtain ⟨hp, hchoices⟩ := hs.walk p attempts choices (hasked.walk p attempts choices hwork)
    exact ⟨hp.carried hcalls, hchoices⟩

theorem State.RouteEffect.contextsInRange {c : Instr} (h : s.RouteEffect c t) (hshape : s.ChainShape)
    (hagreements : ∀ c, (s.agreement c).InRange) (hs : s.ContextsInRange) : t.ContextsInRange := by
  have hready (u : State) (hct : u.ct = s.ct) (hagr : u.agr = s.agr) (hfill : u.tau.fill = none) :
      u.CallReady :=
    ⟨fun i => State.context_congr hct i ▸ hs.contexts i,
      fun c => State.agreement_congr hagr c ▸ hagreements c, hfill⟩
  cases h with
  | seized cell hcell =>
    exact (hready s.dropOperands rfl rfl
      (hshape.cellReady_of_dispatched hcell.1 hcell.2.1).fill).seizeCell cell
  | crankedBack cell hcell =>
    exact (hready s rfl rfl
      (hshape.cellReady_of_dispatched hcell.1 hcell.2.1).fill).crankbackCell cell
  | walked p attempts choices hwalk =>
    obtain ⟨hp, hchoices⟩ := hs.walk p attempts choices hwalk.2
    exact (hready s rfl rfl (hshape.cellReady_of_walking hwalk).fill).walkEvent hp attempts
      hchoices
  | filled f data hfill =>
    exact Requester.InRange.onLine (s := { s with tau := ⟨installLine ⟨f.tag,
      readBytes f.tag.kind.bytes data⟩ s.tau.lines, none⟩ }) (hready _ rfl rfl rfl)
      (Requester.inRange_congr rfl (hs.fill f hfill)) _
  | fillFailed c kind f hfill =>
    exact Requester.InRange.onFault
      (hready (s.offerFault kind .table f.address).abandonFill (by simp) (by simp) rfl)
      (Requester.inRange_congr (by simp) (hs.fill f hfill))

theorem State.coldReset_contextsInRange (s : State) : s.coldReset.ContextsInRange where
  contexts i := s.coldReset_context i ▸ Context.cold_inRange
  fill _ hf := by cases hf
  walk _ _ _ hwork := by cases hwork

theorem State.Effect.contextsInRange {c : Instr} (h : s.Effect c t) (hshape : s.ChainShape)
    (hagreements : ∀ c, (s.agreement c).InRange) (hs : s.ContextsInRange) : t.ContextsInRange := by
  have hsame (hct : t.ct = s.ct) (i : CtxId) : (s.context i).Carries (t.context i) :=
    State.context_congr hct i ▸ .refl _
  have hkept (hcc : t.cc = s.cc) (htau : t.tau = s.tau) (hct : t.ct = s.ct) : t.ContextsInRange :=
    hs.carried (.of_eq hcc htau) (hsame hct)
  have hdone {u : State} (hmark : ∀ i, (s.context i).Mark (u.context i)) (code : ResultCode)
      (fields : List Field) (hfill : u.tau.fill = none) : (u.complete code fields).ContextsInRange :=
    State.contextsInRange_of_done
      (fun i => by
        rw [State.context_congr (State.complete_ct ..)]
        exact (hmark i).inRange (hs.contexts i))
      (by rwa [State.complete_tau]) (by rw [State.complete_cc])
  cases h with
  | chain h => exact hs.carried h.asksNothing (hsame h.frame.ct)
  | journal h => exact hkept h.frame.cc h.frame.tau h.frame.ct
  | routed h => exact h.contextsInRange hshape hagreements hs
  | completed code fields hcell h =>
    exact hdone h.contextMark code fields
      (h.frame.fill.trans (hshape.cellReady_of_dispatched hcell.1 hcell.2.1).fill)
  | releaseResumed r fields hstalled =>
    exact hdone (s.chargeEvent_mark r) .ok fields (by simpa using (hshape.stalled_cell hstalled).2)
  | closeResumed fields hstalled =>
    exact hdone (fun i => State.context_congr (s.closeEvent_ct) i ▸ .kept) .ok fields
      (by simpa using (hshape.stalled_cell hstalled).2)
  | cold => exact s.coldReset_contextsInRange
  | pinReset => exact s.coldReset_contextsInRange.carried (.of_eq rfl rfl) fun i => .refl _
  | linkReset => exact s.coldReset_contextsInRange.carried (.of_eq rfl rfl) fun i => .refl _
  | started =>
    refine hs.carried ⟨fun _ _ _ hwork => ?_, fun f hf => by
      rwa [State.startJournal_tau, State.readLink_tau] at hf⟩ (hsame (by simp))
    rwa [State.startJournal_cc, State.readLink_cc] at hwork
  | restarted =>
    refine hs.carried ⟨fun _ _ _ hwork => ?_, fun f hf => ?_⟩ (hsame (by simp))
    · rw [State.restart_cc] at hwork
      cases hwork
    · have hnone : s.restart.tau.fill = none := congrArg TableAccess.fill (State.chainIdle_tau _)
      rw [hnone] at hf
      cases hf
  | nudged =>
    refine hs.carried ⟨fun _ _ _ hwork => ?_, fun f hf => by simpa using hf⟩ (hsame (by simp))
    rw [State.nudgeJournal_cc] at hwork
    rwa [State.nudgeChain_work] at hwork
  | pollExpired =>
    refine hs.carried ⟨fun _ _ _ hwork => ?_, fun f hf => by simpa using hf⟩ (hsame (by simp))
    rw [State.pollExpiry_cc] at hwork
    split at hwork
    · rwa [State.readLink_cc] at hwork
    · exact hwork
  | anchorLoaded => 
    refine hs.carried ⟨fun _ _ _ hwork => ?_, fun f hf => by simpa using hf⟩ (hsame (by simp))
    rwa [State.loadAnchor_cc] at hwork
  | ticked =>
    refine hs.carried (.of_eq (by simp) (by simp)) fun i => ?_
    rw [State.advanceTick_context, State.takeOverdueExpiries_context, State.takeOverdue_eq,
      State.context_congr (State.takeGroupExpiries_ct s)]
    exact Context.overdue_carries _ _
  | overdue i =>
    refine hs.carried (.of_eq (by simp) (by simp)) fun j => ?_
    rw [State.raise_context, State.setContext_context]
    split
    case isTrue hij => exact hij ▸ Context.overdue_carries _ true
    case isFalse => exact .refl _
  | _ => exact hkept (by simp) (by simp) (by simp)

end Ranges

/-- Settles O50: each part over the cases of what a command can do. -/
theorem callsStaySound : Obligations.CallsStaySound :=
  ⟨step_keeps (fun _ _ hs => ⟨hs.busy, hs.fifo_nodup, hs.fifo_free⟩) fun _ _ _ h => h.callsSound,
    step_keeps (fun _ _ hs => hs) fun _ _ _ h => h.marksSound,
    fun s t hshape hagreements hs hstep =>
      (step_keeps
        (P := fun u => u.ChainShape ∧ u.AgreementsSound ∧ u.ContextsInRange)
        (fun _ _ hu => ⟨hu.1.congr rfl rfl, ⟨hu.2.1.ranges, hu.2.1.frozen⟩,
          hu.2.2.carried (.of_eq rfl rfl) fun _ => .refl _⟩)
        (fun _ _ _ h hu => ⟨h.shape hu.1, h.agreementsSound hu.2.1,
          h.contextsInRange hu.1 hu.2.1.ranges hu.2.2⟩) s t ⟨hshape, hagreements, hs⟩ hstep).2.2⟩

end Sys2Proof.Machine
end

section
/-! The resets, and what the register writes do: O4, O6, O7, O10, O19 and O49 (R1, R6, R19, R20, R168,
R174). -/

namespace Sys2Proof.Machine

section Registers

variable {s : State}

theorem onRegisterWrite_of_held (take : State → State) (h : s.inReset = true) :
    onRegisterWrite take s = .next s := by simp [onRegisterWrite, h]

theorem onRegisterWrite_of_free (take : State → State) (h : s.inReset = false) :
    onRegisterWrite take s = .next (take s) := by simp [onRegisterWrite, h]

/-- With neither the chain nor JW waiting the poll counter is 0 (R29). -/
theorem State.settlePoll_of_still (hcc : s.cc.state ≠ .waiting) (hjw : s.jw.state ≠ .waitingPage) :
    s.settlePoll = { s with tb := { s.tb with pollCounter := 0 } } := by
  rw [State.settlePoll, if_neg]
  simp [State.pollCounting, hcc, hjw]

/-- A START leaves a JW that works or waits for a page alone (R160). -/
theorem State.startJournal_of_busy (hidle : s.jw.state ≠ .idle) (hfaulted : s.jw.state ≠ .faulted) :
    s.startJournal = s := by
  unfold State.startJournal
  split
  case h_1 h => exact absurd h hidle
  case h_2 h => exact absurd h hfaulted
  all_goals rfl

/-- A START takes JW out of IDLE and FAULTED (R160). -/
theorem State.startJournal_of_stopped (h : s.jw.state = .idle ∨ s.jw.state = .faulted) :
    s.startJournal =
      State.openPage false { s with jw := { s.jw with nudgeSeen := false, prefetch := none } } := by
  obtain h | h := h <;> rw [State.startJournal, h]

end Registers

/-- Settles O7: each of these goes through the guard of a held reset, or is no command at all. -/
theorem ignoredWritesChangeNothing : Obligations.IgnoredWritesChangeNothing := by
  intro s
  refine ⟨fun _ => rfl, fun _ _ _ => rfl, fun h => ?_⟩
  have htick : exec .tickAdvance s = .next s := by
    change execTickAdvance s = .next s
    simp [execTickAdvance, h]
  have hpoll : exec .pollTick s = .next s := by
    change execPollTick s = .next s
    simp [execPollTick, State.pollCounting, h]
  have hnudge (v : Word32) : exec (.nudge v) s = .next s :=
    onRegisterWrite_of_held (fun t => t.nudgeChain.nudgeJournal) h
  have hstatus (v : Word32) : exec (.attnStatusWrite v) s = .next s :=
    onRegisterWrite_of_held (fun t => { t with
      afl := t.afl.update (t.afl.status &&& ~~~(v.truncate 6)) t.afl.enable }) h
  have henable (v : Word32) : exec (.attnEnableWrite v) s = .next s :=
    onRegisterWrite_of_held (fun t => { t with
      afl := t.afl.update t.afl.status (v.truncate 6) }) h
  have hinfo (v : Word32) : exec (.faultInfoWrite v) s = .next s :=
    onRegisterWrite_of_held (fun t => { t with afl := { t.afl with capture := none } }) h
  exact ⟨onRegisterWrite_of_held _ h, onRegisterWrite_of_held _ h, onRegisterWrite_of_held _ h,
    onRegisterWrite_of_held _ h, htick, hpoll, hnudge,
    fun half v => onRegisterWrite_of_held (State.writeAnchor half v) h, hstatus, henable, hinfo⟩

/-- Settles O19: NOP's request is the completion itself, of no field. -/
theorem nopCompletesWithOk : Obligations.NopCompletesWithOk := by
  intro s c hcell
  have hrun : exec .nop s = .next (s.complete .ok []) := onRequest_of_inHand hcell nopRequest
  have hworking : s.cc.state = .working := hcell.1
  rw [hrun, State.complete_eq, layout_of_zero 64 64 [] nofun, ← hworking]

/-- Settles O4: START and STOP are taken by chain state, each with the next state of its access or of the
entry to IDLE. -/
theorem startAndStopActByChainState : Obligations.StartAndStopActByChainState := by
  have hstart {s : State} (h : s.inReset = false) : exec .start s = .next s.start :=
    onRegisterWrite_of_free State.start h
  have hstop {s : State} (h : s.inReset = false) : exec .stop s = .next s.stop :=
    onRegisterWrite_of_free State.stop h
  refine ⟨fun s hfree => ?_, fun s hfree => ?_⟩
  · rw [hstart hfree, State.start]
    refine ⟨fun hbusy => ?_, fun hidle hinvalid => ?_, fun hidle hvalid hjw hjw' => ?_,
      fun hidle hvalid hjw => ?_⟩
    · rw [if_neg hbusy]
    · rw [if_pos hidle, hinvalid, if_neg Bool.false_ne_true, State.readAnchor_eq]
    · rw [if_pos hidle, hvalid, if_pos rfl, State.startJournal_of_busy (by simpa using hjw)
        (by simpa using hjw'), State.readLink_eq]
    · rw [if_pos hidle, hvalid, if_pos rfl, State.startJournal_of_stopped (by simpa using hjw),
        State.openPage_eq, State.settlePoll_of_still (by simp [State.readLink_cc])
          (fun h => by cases h),
        State.readLink_eq, State.settlePoll_eq]
  · rw [hstop hfree]
    refine ⟨fun h => ?_, fun h => ?_, fun h => ?_, fun h => ?_⟩
    · rw [State.stop, h]
    · rcases h with h | h | h <;> rw [State.stop, h]
    · rw [State.stop, h]
      exact congrArg Host.Outcome.next s.chainIdle_eq
    · rw [State.stop, h]
      exact congrArg Host.Outcome.next (State.chainIdle_eq _)

/-- Settles O6: the reset state field by field, and the commands that leave it. -/
theorem coldResetLeavesResetState : Obligations.ColdResetLeavesResetState := by
  refine ⟨⟨rfl, rfl, rfl, ⟨_, rfl, rfl, rfl⟩, rfl, rfl, rfl, rfl, rfl, rfl, rfl⟩, fun s => ?_⟩
  refine ⟨?_, rfl, fun hfree => ?_, rfl, fun _ => rfl, rfl, rfl⟩
  · rw [State.inReset, Bool.or_eq_true]
  · exact onRegisterWrite_of_free State.coldReset hfree

/-- Settles O49: the reset state is the state a cold reset leaves of it. -/
theorem resetStateIsSound : Obligations.ResetStateIsSound := by
  have hreset : State.reset.coldReset = State.reset := rfl
  refine ⟨?_, ?_, ?_, ?_, ?_, ?_, ?_, ?_, ?_, ?_, ?_, ?_, ?_, ?_, ?_⟩
  · exact hreset ▸ State.reset.coldReset_callsSound
  · exact fun i => hreset ▸ State.reset.coldReset_context i ▸ Context.cold_marksSound
  · exact State.cacheSound_of_empty rfl
  · exact hreset ▸ State.reset.coldReset_groupsInRange
  · exact hreset ▸ State.reset.coldReset_agreementsSound
  · exact hreset ▸ State.reset.coldReset_accountsInRange
  · exact (hreset ▸ State.reset.coldReset_journalSound).holdSound
  · exact (hreset ▸ State.reset.coldReset_journalSound).shapeSound
  · exact hreset ▸ State.reset.coldReset_shape
  · exact ⟨nofun, nofun, nofun, nofun⟩
  · exact ⟨nofun, fun _ => rfl⟩
  · exact fun _ => hreset.symm
  · exact ⟨.inr rfl, by rintro (h | h) <;> exact absurd rfl h, nofun, nofun⟩
  · exact hreset ▸ State.reset.coldReset_contextsInRange
  · exact nofun

end Sys2Proof.Machine
end

section
/-! The register window: O8, O9 and O10 (R6, R17, R159, R168 to R173). -/

namespace Sys2Proof.Machine

/-! ## Fields of a register made up of numbers -/

theorem extractLsb'_ofNat_of_mod (m n start len : Nat) (h : m / 2 ^ start % 2 ^ len = n % 2 ^ len)
    (hlen : start + len ≤ 32) :
    (BitVec.ofNat 32 m).extractLsb' start len = BitVec.ofNat len n := by
  apply BitVec.eq_of_toNat_eq
  rw [BitVec.extractLsb'_toNat, BitVec.toNat_ofNat, BitVec.toNat_ofNat, Nat.shiftRight_eq_div_pow,
    ← h]
  obtain ⟨k, hk⟩ : ∃ k, 32 = start + (len + k) := ⟨32 - start - len, by omega⟩
  rw [hk, pow_add, Nat.mod_mul_right_div_self, pow_add, Nat.mod_mul_right_mod]

theorem getLsbD_ofNat_of_mod (m i : Nat) (b : Bool) (h : m / 2 ^ i % 2 = b.toNat) (hi : i < 32) :
    (BitVec.ofNat 32 m).getLsbD i = b := by
  rw [BitVec.getLsbD_ofNat, Nat.testBit_eq_decide_div_mod_eq, h]
  cases b <;> simp [hi]

section Window

variable {s : State}

theorem ChainState.code_lt (c : ChainState) : c.code < 8 := by cases c <;> decide

theorem JournalState.code_lt (j : JournalState) : j.code < 8 := by cases j <;> decide

theorem FaultKind.code_lt (k : FaultKind) : k.code < 8 := by cases k <;> decide

theorem Agent.code_lt (a : Agent) : a.code < 4 := by cases a <;> decide

/-- The fields of STATE: two codes of three bits and four flags (R168). -/
theorem stateRegister_fields (x y : Nat) (hx : x < 8) (hy : y < 8) (a b c d : Bool) (w : Word32)
    (hw : w = BitVec.ofNat 32 (x + 16 * y + 256 * flags [a, b, c, d])) :
    w.extractLsb' 0 3 = BitVec.ofNat 3 x ∧ w.extractLsb' 4 3 = BitVec.ofNat 3 y ∧
      w.getLsbD 8 = a ∧ w.getLsbD 9 = b ∧ w.getLsbD 10 = c ∧ w.getLsbD 11 = d ∧
      w.extractLsb' 12 20 = BitVec.ofNat 20 0 := by
  subst hw
  have ha := a.toNat_le
  have hb := b.toNat_le
  have hc := c.toNat_le
  have hd := d.toNat_le
  simp only [flags]
  refine ⟨extractLsb'_ofNat_of_mod _ _ _ _ ?_ (by omega),
    extractLsb'_ofNat_of_mod _ _ _ _ ?_ (by omega), getLsbD_ofNat_of_mod _ _ _ ?_ (by omega),
    getLsbD_ofNat_of_mod _ _ _ ?_ (by omega), getLsbD_ofNat_of_mod _ _ _ ?_ (by omega),
    getLsbD_ofNat_of_mod _ _ _ ?_ (by omega), extractLsb'_ofNat_of_mod _ _ _ _ ?_ (by omega)⟩ <;>
  omega

/-- The fields of FAULT_INFO with a fault captured: VALID, LOST, kind and agent (R173). -/
theorem faultInfo_fields (c : Capture) (w : Word32) (hw : w = faultInfo (some c)) :
    w.getLsbD 0 = true ∧ w.getLsbD 1 = c.lost ∧
      w.extractLsb' 4 3 = BitVec.ofNat 3 c.kind.code ∧
      w.extractLsb' 8 2 = BitVec.ofNat 2 c.agent.code := by
  subst hw
  have hlost := c.lost.toNat_le
  have hkind := c.kind.code_lt
  have hagent := c.agent.code_lt
  simp only [faultInfo, flags]
  refine ⟨getLsbD_ofNat_of_mod _ _ _ ?_ (by omega), getLsbD_ofNat_of_mod _ _ _ ?_ (by omega),
    extractLsb'_ofNat_of_mod _ _ _ _ ?_ (by omega),
    extractLsb'_ofNat_of_mod _ _ _ _ ?_ (by omega)⟩ <;>
  simp only [Bool.toNat_true] <;> omega

theorem AttentionLogic.signal_eq_false_iff (a : AttentionLogic) :
    a.signal = false ↔ a.status &&& a.enable = 0 := by
  rw [AttentionLogic.signal, bne_eq_false_iff_eq]

/-- Clearing causes asserts no signal that was not asserted, so it sends no message (R170, R171). -/
theorem AttentionLogic.update_cleared (a : AttentionLogic) (cleared : CauseBits) :
    a.update (a.status &&& ~~~cleared) a.enable = { a with status := a.status &&& ~~~cleared } := by
  rw [AttentionLogic.update_eq, if_neg, Nat.add_zero]
  rintro ⟨hquiet, hraised⟩
  rw [AttentionLogic.signal_eq_false_iff] at hquiet
  refine bne_iff_ne.mp hraised ?_
  rw [BitVec.and_assoc, BitVec.and_comm (~~~cleared), ← BitVec.and_assoc, hquiet]
  exact BitVec.zero_and

theorem State.readRegister_of_width {width : Nat} (h : width ≠ 4) (offset : Nat) :
    s.readRegister offset width = 0 := if_neg h

theorem State.readRegister_of_unreadable {offset : Nat}
    (h : offset ∉ [0x00, 0x04, 0x08, 0x14, 0x18, 0x1C, 0x20, 0x24, 0x28]) :
    s.readRegister offset 4 = 0 := by
  simp only [List.mem_cons, List.not_mem_nil, or_false, not_or] at h
  simp [State.readRegister, h]

end Window

/-- Settles O10: each register by its fields, and the reads that no register answers. -/
theorem registerReadsShowTheState : Obligations.RegisterReadsShowTheState := by
  refine ⟨by decide, fun s => ?_⟩
  obtain ⟨hchain, hjournal, hstop, hposition, hpending, hforce, hrest⟩ := stateRegister_fields
    s.cc.state.code s.jw.state.code s.cc.state.code_lt s.jw.state.code_lt s.cc.stopPending
    s.cc.positionValid s.agr.freezePending s.agr.freezeInForce (s.readRegister 0x14 4) rfl
  have hstatus (x : CauseBits) : (x.zeroExtend 32).extractLsb' 0 6 = x := by
    ext i hi
    have hwide : i < 32 := by omega
    simp [hwide, BitVec.getLsbD_eq_getElem hi]
  refine ⟨rfl, rfl, rfl, hchain, hjournal, hstop, hposition, hpending, hforce, hrest,
    hstatus _, hstatus _, fun c hc => ?_, fun hnone => ?_, fun offset width h => ?_,
    fun offset h => ?_, fun offset h => ?_, rfl, rfl⟩
  · refine ⟨?_, faultInfo_fields c _ (congrArg faultInfo hc)⟩
    change (faultAddress s.afl.capture).extractLsb' 32 32 ++ (faultAddress s.afl.capture).extractLsb' 0 32
      = c.address
    rw [hc]
    change c.address.extractLsb' 32 32 ++ c.address.extractLsb' 0 32 = c.address
    rw [BitVec.extractLsb'_append_extractLsb'_eq_extractLsb' (by decide)]
    exact BitVec.extractLsb'_eq_self
  · have haddress : faultAddress s.afl.capture = 0 := congrArg faultAddress hnone
    exact ⟨congrArg (fun a : Addr => a.extractLsb' 0 32) haddress,
      congrArg (fun a : Addr => a.extractLsb' 32 32) haddress, congrArg faultInfo hnone⟩
  · exact State.readRegister_of_width h offset
  · exact State.readRegister_of_unreadable (by simp; omega)
  · exact State.readRegister_of_unreadable (by simp; omega)

section Nudge

variable {s : State}

/-- What a NUDGE does to CC, with the chain waiting, working or at rest (R17). -/
theorem State.nudgeChain_eq (s : State) : s.nudgeChain = { s with
    cc := s.nudgeChain.cc,
    tb := { s.tb with pollCounter := s.nudgeChain.tb.pollCounter } } := by
  unfold State.nudgeChain
  split
  case h_1 => rw [State.readLink_eq, State.settlePoll_eq]
  all_goals rfl

theorem State.nudgeJournal_eq (s : State) : s.nudgeJournal = { s with
    jw := s.nudgeJournal.jw,
    tb := { s.tb with pollCounter := s.nudgeJournal.tb.pollCounter } } := by
  unfold State.nudgeJournal
  split
  case h_1 => rw [State.openPage_eq, State.settlePoll_eq]
  all_goals rfl

theorem State.nudge_eq (s : State) : s.nudgeChain.nudgeJournal = { s with
    cc := s.nudgeChain.cc, jw := s.nudgeChain.nudgeJournal.jw,
    tb := { s.tb with pollCounter := s.nudgeChain.nudgeJournal.tb.pollCounter } } := by
  generalize hcounter : s.nudgeChain.nudgeJournal.tb.pollCounter = n
  generalize hjw : s.nudgeChain.nudgeJournal.jw = j
  rw [State.nudgeJournal_eq, hcounter, hjw]
  generalize hcc : s.nudgeChain.cc = x
  rw [State.nudgeChain_eq, hcc]

end Nudge

/-- Settles O8: CC and JW each take the event by their own state. -/
theorem nudgeReachesChainAndJournal : Obligations.NudgeReachesChainAndJournal := by
  intro s v hfree
  have hrun : exec (.nudge v) s = .next s.nudgeChain.nudgeJournal :=
    onRegisterWrite_of_free (fun t => t.nudgeChain.nudgeJournal) hfree
  refine ⟨_, hrun, ?_, (exec_effect hrun).pollSound, fun h => ?_, fun h => ?_, fun h => ?_, fun h => ?_,
    fun h => ?_, fun h => ?_⟩
  · rw [State.nudgeJournal_cc]
    exact s.nudge_eq
  · rw [State.nudgeJournal_cc, State.nudgeChain, h]
    exact s.readLink_cc
  · rw [State.nudgeJournal_cc]
    rcases h with h | h | h <;> rw [State.nudgeChain, h]
  · rw [State.nudgeJournal_cc]
    rcases h with h | h <;> rw [State.nudgeChain, h]
  · rw [State.nudgeJournal, State.nudgeChain_jw, h, State.openPage_eq, State.settlePoll_jw,
      State.nudgeChain_jw, State.nudgeChain_anchor]
  · rcases h with h | h <;> rw [State.nudgeJournal, State.nudgeChain_jw, h]
  · rcases h with h | h <;> rw [State.nudgeJournal, State.nudgeChain_jw, h, State.nudgeChain_jw]

/-- Settles O9: the writes act on their register alone, and each offset and code is one command. -/
theorem registerWritesAct : Obligations.RegisterWritesAct := by
  refine ⟨fun s v hfree => ?_, fun s v hfree => ?_, fun value w hw => ?_,
    fun offset width value h => ?_, fun _ _ _ _ => rfl⟩
  · have hrun (half : AnchorHalf) : exec (.anchorWrite half v) s = .next (s.writeAnchor half v) :=
      onRegisterWrite_of_free (State.writeAnchor half v) hfree
    refine ⟨fun hidle => ?_, fun hbusy half => ?_⟩
    · exact ⟨(hrun .lo).trans (congrArg Host.Outcome.next (if_pos hidle)),
        (hrun .hi).trans (congrArg Host.Outcome.next (if_pos hidle))⟩
    · exact (hrun half).trans (congrArg Host.Outcome.next (if_neg hbusy))
  · refine ⟨?_, ?_, ?_⟩
    · refine (onRegisterWrite_of_free (fun t => { t with
        afl := t.afl.update (t.afl.status &&& ~~~(v.truncate 6)) t.afl.enable }) hfree).trans ?_
      rw [AttentionLogic.update_cleared]
    · refine (onRegisterWrite_of_free (fun t => { t with
        afl := t.afl.update t.afl.status (v.truncate 6) }) hfree).trans ?_
      simp only [AttentionLogic.update_eq, AttentionLogic.signal_eq_false_iff, bne_iff_ne]
    · exact onRegisterWrite_of_free (fun t => { t with afl := { t.afl with capture := none } }) hfree
  · subst hw
    refine ⟨rfl, rfl, ?_, ?_, ?_, ?_, ?_, rfl, rfl, rfl, rfl⟩
    · intro hcode
      exact (congrArg controlCommand hcode).trans rfl
    · intro hcode
      exact (congrArg controlCommand hcode).trans rfl
    · intro hcode
      exact (congrArg controlCommand hcode).trans rfl
    · intro hcode
      exact (congrArg controlCommand hcode).trans rfl
    · intro hcode
      simp only [List.mem_cons, List.not_mem_nil, or_false, not_or] at hcode
      obtain ⟨h1, h2, h3, h4⟩ := hcode
      change controlCommand (BitVec.ofNat 32 value) = .controlOtherCode (BitVec.ofNat 32 value)
      rw [controlCommand, if_neg h1, if_neg h2, if_neg h3, if_neg h4]
  · by_cases hwidth : width = 4
    · have hoffset := h.resolve_left (not_not.mpr hwidth)
      simp only [List.mem_cons, List.not_mem_nil, or_false, not_or] at hoffset
      simp [decodeRegisterWrite, hoffset]
    · exact if_neg hwidth

end Sys2Proof.Machine
end

section
/-! What the ends of CC's accesses do, event by event: O14 to O18 (sections 1.3 to 1.7). -/

namespace Sys2Proof.Machine

section Ends

variable {s : State}

/-! ## The ends of CC's accesses -/

theorem exec_linkReadEnd_of_flight {a : Access} (h : s.cc.flight = some ⟨.linkRead, a⟩)
    (data : List Byte) : exec (.linkReadEnd data) s = .next (
      if s.cc.stopPending then s.endFlight.chainIdle
      else if addrAt data 0 = 0 then
        if s.cc.nudgeSeen then
          State.readLink { s.endFlight with cc := { s.endFlight.cc with nudgeSeen := false } }
        else s.endFlight.enterChain .waiting
      else if s.goodLink (addrAt data 0) then s.endFlight.retire (addrAt data 0)
      else s.chainFault .badLink a.base) := by
  change execLinkReadEnd data s = _
  rw [execLinkReadEnd, h]

theorem exec_cellFetchEnd_of_flight {a : Access} (h : s.cc.flight = some ⟨.cellFetch, a⟩)
    (data : List Byte) : exec (.cellFetchEnd data) s = .next (
      if statusPosted data then s.dispatchCell (fetchedCellOf data)
      else s.chainFault .notPosted a.base) := by
  change execCellFetchEnd data s = _
  rw [execCellFetchEnd, h]

theorem exec_statusWriteEnd_of_flight {a : Access} (h : s.cc.flight = some ⟨.statusWrite, a⟩) :
    exec .statusWriteEnd s = .next (
      if s.cc.stopPending then (if s.notifies then s.raise .cell else s).chainIdle
      else (if s.notifies then s.raise .cell else s).dropCell.readLink) := by
  change execStatusWriteEnd s = _
  rw [execStatusWriteEnd, h]

theorem exec_anchorReadEnd_of_flight {a : Access} (h : s.cc.flight = some ⟨.anchorRead, a⟩)
    (data : List Byte) : exec (.anchorReadEnd data) s = .next (
      if (anchorFieldsOf data).valid then s.endFlight.loadAnchor (anchorFieldsOf data)
      else s.chainFault .anchorInvalid a.base) := by
  change execAnchorReadEnd data s = _
  rw [execAnchorReadEnd, h]

/-- Whether a candidate next cell is good (R14). -/
theorem State.goodLink_iff (n : Addr) : s.goodLink n = true ↔
    n.toNat % 128 = 0 ∧ s.cc.anchor.lowBound.toNat ≤ n.toNat ∧
      n.toNat < s.cc.anchor.highBound.toNat ∧ n ≠ s.cc.held := by
  simp [State.goodLink, AnchorFields.cellAddress, Addr.cellAligned, and_assoc]

/-! ## Accesses -/

theorem Access.isWrite_of_read {a : Access} {n : Nat} (h : a.transfer = .read n) :
    a.isWrite = false := by rw [Access.isWrite, h]

theorem Access.isWrite_of_write {a : Access} {d : List Byte} (h : a.transfer = .write d) :
    a.isWrite = true := by rw [Access.isWrite, h]

/-- A journal fault outside the engine-half write leaves the close alone (R158). -/
theorem State.journalFault_of_ne {f : JournalFlight} (h : ∀ b, f.op ≠ .engineWrite b)
    (kind : FaultKind) : s.journalFault kind f = State.settlePoll { s with
      jw := { s.jw with state := .faulted, flight := none },
      afl := s.afl.offer kind .journal f.access.base } := by
  rw [State.journalFault_eq,
    State.finishCloseOf_of_ne (f := some f) fun b hb => h b (Option.some.inj hb)]
  rfl

/-! ## Written extents -/

theorem layout_getElem? {start length n : Nat} (fields : List Field) (hn : n < length) :
    (layout start length fields)[n]? = some (layoutByte fields (start + n)) := by
  simp [layout, List.getElem?_range' hn]

theorem Field.covers_eq_false {f : Field} {offset : Nat}
    (h : offset < f.offset ∨ f.offset + f.width ≤ offset) : f.covers offset = false := by
  simp only [Field.covers, Bool.and_eq_false_iff, decide_eq_false_iff_not]
  omega

/-- The first field that covers a byte gives it. -/
theorem layoutByte_of_first {before after : List Field} {f : Field} {offset : Nat}
    (hbefore : ∀ g ∈ before, offset < g.offset ∨ g.offset + g.width ≤ offset)
    (hlow : f.offset ≤ offset) (hhigh : offset < f.offset + f.width) :
    layoutByte (before ++ f :: after) offset = f.byte offset := by
  have hnone : before.find? (fun g => g.covers offset) = none :=
    List.find?_eq_none.mpr fun g hg => by simp [Field.covers_eq_false (hbefore g hg)]
  have hcovers : f.covers offset = true := by simp [Field.covers, hlow, hhigh]
  simp [layoutByte, List.find?_append, hnone, hcovers]

theorem layoutByte_of_uncovered {fields : List Field} {offset : Nat}
    (h : ∀ f ∈ fields, offset < f.offset ∨ f.offset + f.width ≤ offset) :
    layoutByte fields offset = 0 := by
  have hnone : fields.find? (fun f => f.covers offset) = none :=
    List.find?_eq_none.mpr fun f hf => by simp [Field.covers_eq_false (h f hf)]
  simp [layoutByte, hnone]

/-- COMPLETE and the result code, cell bytes 10 and 11 (R10). -/
theorem layout_status (code : Nat) :
    layout 10 2 [⟨10, 1, 2⟩, ⟨11, 1, code⟩] = [2, BitVec.ofNat 8 code] := by
  simp [layout, List.range'_succ, layoutByte, Field.covers, Field.byte]

/-! ## Dispatch and completion -/

theorem requestKind_of_uncatalogued {b : Byte} (h : 0x07 < b.toNat ∧ b.toNat < 0x10 ∨
    0x12 < b.toNat ∧ b.toNat < 0x18 ∨ 0x1B < b.toNat ∧ b.toNat < 0x20 ∨ 0x22 < b.toNat) :
    requestKind b = none := by
  unfold requestKind
  split
  case h_19 => rfl
  all_goals omega

theorem fetchedCellOf_operands (data : List Byte) :
    (fetchedCellOf data).operands = (List.range 48).map fun n => byteAt data (16 + n) := by
  simp [fetchedCellOf, readBytes, byteAt, List.getD_eq_getElem?_getD]

/-- Entering the state the chain is in only settles the poll counter. -/
theorem State.enterChain_self {x : ChainState} (h : s.cc.state = x) : s.enterChain x = s.settlePoll := by
  subst h
  rfl

/-- A cell completes alike whether or not it was taken to WORKING just before. -/
theorem State.complete_enterChain (s : State) (code : ResultCode) (fields : List Field) :
    (s.enterChain .working).complete code fields = s.complete code fields := by
  unfold State.complete
  rw [State.enterChain_self (s := s.enterChain .working) (by rw [State.enterChain_cc]),
    State.enterChain, State.settlePoll_settlePoll]

/-- NOTIFY of the cell in hand sets CELL (R10). -/
theorem State.notified_eq {c : FetchedCell} (h : s.cc.cell = some c) :
    (if s.notifies then s.raise .cell else s) =
      { s with afl := if c.notify = true then s.afl.raise .cell else s.afl } := by
  have hnotifies : s.notifies = c.notify := by simp [State.notifies, h]
  rw [hnotifies]
  split <;> rfl

end Ends

/-- Settles O17: the branches of the end of a link read, in their order. -/
theorem linkReadActsInOrder : Obligations.LinkReadActsInOrder := by
  intro s a data n hflight hn
  have hlink : addrAt data 0 = n := hn.symm
  rw [exec_linkReadEnd_of_flight hflight data, hlink]
  refine ⟨fun hstop => ?_, fun hstop hzero hnudge => ?_, fun hstop hzero hnudge => ?_,
    fun hstop hne hgood => ?_, fun hstop hne hbad => ?_⟩
  · rw [hstop, if_pos rfl, State.chainIdle_eq]
    rfl
  · rw [hstop, hnudge, if_neg Bool.false_ne_true, if_pos hzero, if_pos rfl, State.readLink_eq]
    rfl
  · rw [hstop, hnudge, if_neg Bool.false_ne_true, if_pos hzero, if_neg Bool.false_ne_true]
    rfl
  · rw [hstop, if_neg Bool.false_ne_true, if_neg hne, if_pos ((s.goodLink_iff n).mpr hgood),
      State.retire, State.writeRetireMark_eq]
    rfl
  · rw [hstop, if_neg Bool.false_ne_true, if_neg hne, if_neg (mt (s.goodLink_iff n).mp hbad),
      State.chainFault_eq]

/-- Settles O18: the fault branches of both agents. -/
theorem accessFaultsStopTheirAgent : Obligations.AccessFaultsStopTheirAgent := by
  refine ⟨⟨fun s f hflight => ⟨?_, fun n hread => ?_, fun d hwrite => ?_⟩,
    fun s f hflight => ⟨fun hop => ?_, fun n hop hread => ?_, fun d hwrite => ?_⟩⟩,
    fun s n a hlisted => ?_, fun s n a hlisted => ?_⟩
  · change execChainErrorReply s = _
    rw [execChainErrorReply, hflight]
    exact congrArg Host.Outcome.next (s.chainFault_eq _ _)
  · change execChainNoReply s = _
    rw [execChainNoReply, hflight]
    simp only [Access.isWrite_of_read hread, Bool.false_eq_true, if_false]
    rw [State.chainFault_eq]
  · change execChainNoReply s = _
    rw [execChainNoReply, hflight]
    simp only [Access.isWrite_of_write hwrite, if_true]
  · change execJournalErrorReply s = _
    rw [execJournalErrorReply, hflight]
    exact congrArg Host.Outcome.next (State.journalFault_of_ne hop _)
  · change execJournalNoReply s = _
    rw [execJournalNoReply, hflight]
    simp only [Access.isWrite_of_read hread, Bool.false_eq_true, if_false]
    rw [State.journalFault_of_ne hop]
  · change execJournalNoReply s = _
    rw [execJournalNoReply, hflight]
    simp only [Access.isWrite_of_write hwrite, if_true]
  · change execChainAbandonedWriteError n s = _
    rw [execChainAbandonedWriteError, hlisted]
    rfl
  · change execJournalAbandonedWriteError n s = _
    rw [execJournalAbandonedWriteError, hlisted]
    rfl

/-- Settles O15: the end of a cell fetch by the status byte and the kind. -/
theorem cellFetchDispatchesPostedCells : Obligations.CellFetchDispatchesPostedCells := by
  refine ⟨fun _ _ _ => ⟨rfl, rfl, rfl⟩, fun _ _ _ _ => ⟨rfl, rfl⟩, by decide,
    fun _ h => requestKind_of_uncatalogued h, fun s a data c hflight hkind hnotify hoperands => ?_⟩
  have hcell : fetchedCellOf data = c := by
    obtain ⟨kind, notify, operands⟩ := c
    rw [FetchedCell.mk.injEq]
    exact ⟨hkind.symm, hnotify.symm, (fetchedCellOf_operands data).trans hoperands.symm⟩
  rw [exec_cellFetchEnd_of_flight hflight, hcell]
  refine ⟨fun hposted => ?_, fun hposted hkind => ?_, fun hposted hkind => ?_⟩
  · rw [statusPosted, if_neg (by simpa using hposted), State.chainFault_eq]
  · rw [statusPosted, if_pos (by simpa using hposted), State.dispatchCell]
    simp only [hkind, if_true]
    rfl
  · rw [statusPosted, if_pos (by simpa using hposted), State.dispatchCell]
    simp only [hkind, Option.isSome_none, Bool.false_eq_true, if_false]
    rw [State.complete_enterChain, State.complete_eq, layout_of_zero 64 64 [] nofun]

/-- Settles O16: the three writes' ends, and what stands in a written extent. -/
theorem completionWritesInOrder : Obligations.CompletionWritesInOrder := by
  refine ⟨rfl, fun start length fields => ⟨layout_length _ _ _, fun n hn => ?_⟩,
    fun s code fields => s.complete_eq code fields, fun s a code hflight => ?_,
    fun s a c hflight hcell => ⟨fun hstop => ?_, fun hstop => ?_⟩⟩
  · refine ⟨_, layout_getElem? fields hn, fun before after f hfields hbefore hlow hhigh => ?_,
      layoutByte_of_uncovered⟩
    rw [hfields, layoutByte_of_first hbefore hlow hhigh, Field.byte]
  · change execResultWriteEnd s = _
    rw [execResultWriteEnd, hflight]
    refine congrArg Host.Outcome.next ?_
    rw [State.writeStatus, layout_status]
    rfl
  · rw [exec_statusWriteEnd_of_flight hflight, hstop, if_pos rfl, State.notified_eq hcell,
      State.chainIdle_eq]
  · rw [exec_statusWriteEnd_of_flight hflight, hstop, if_neg Bool.false_ne_true,
      State.notified_eq hcell, State.readLink_eq]
    rfl

end Sys2Proof.Machine
end

section
/-! The anchor, a RESTART and the poll counter: O5, O12 and O14 (R5, R21, R29, R160, R164, R167). -/

namespace Sys2Proof.Machine

section Blocks

variable {s t : State}

/-- Two states are one when all blocks are. -/
theorem State.eq_of_blocks (hcc : t.cc = s.cc) (htb : t.tb = s.tb) (htau : t.tau = s.tau)
    (hgroups : t.groups = s.groups) (hprofiles : t.profiles = s.profiles) (hct : t.ct = s.ct)
    (hagr : t.agr = s.agr) (hru : t.ru = s.ru) (hjw : t.jw = s.jw) (hafl : t.afl = s.afl)
    (hresets : t.resets = s.resets) (hpending : t.pending = s.pending) : t = s := by
  cases s
  cases t
  simp_all

/-- The same for a state whose CC, JW and attention are as they are. -/
theorem State.eq_of_other_blocks {tb : Timebase} {tau : TableAccess} (htb : t.tb = tb)
    (htau : t.tau = tau) (hgroups : t.groups = s.groups) (hprofiles : t.profiles = s.profiles)
    (hct : t.ct = s.ct) (hagr : t.agr = s.agr) (hru : t.ru = s.ru) (hresets : t.resets = s.resets)
    (hpending : t.pending = s.pending) :
    t = { s with cc := t.cc, tb := tb, tau := tau, jw := t.jw, afl := t.afl } :=
  State.eq_of_blocks rfl htb htau hgroups hprofiles hct hagr hru rfl rfl hresets hpending

theorem Timebase.eq_of_fields {x y : Timebase} (hnow : y.now = x.now)
    (htime : y.timeOfWeek = x.timeOfWeek) (hbands : y.bands = x.bands)
    (hcounter : y.pollCounter = x.pollCounter) : y = x := by
  cases x
  cases y
  simp_all

/-! ## Step 4 of a close whose write ends with its agent -/

theorem State.finishCloseOf_of_op {f : Option JournalFlight} {periodEnd : Bool}
    (h : f.map JournalFlight.op = some (.engineWrite periodEnd)) :
    s.finishCloseOf f = s.finishClose periodEnd := by
  obtain ⟨⟨op, a⟩, rfl, rfl⟩ := Option.map_eq_some_iff.mp h
  rfl

/-- Step 4 of a close changes these four fields of JW alone (R164, R165). -/
theorem State.finishCloseOf_jw (s : State) (f : Option JournalFlight) : (s.finishCloseOf f).jw =
    { s.jw with
      hold := (s.finishCloseOf f).jw.hold, snapshot := (s.finishCloseOf f).jw.snapshot,
      period := (s.finishCloseOf f).jw.period, cursor := (s.finishCloseOf f).jw.cursor } := by
  unfold State.finishCloseOf
  split
  case h_1 periodEnd _ => cases periodEnd <;> rfl
  case h_2 => rfl

theorem State.restartJournal_jw (s : State) : s.restartJournal.jw =
    { (s.finishCloseOf s.jw.flight).jw with
      state := .idle, flight := none, nudgeSeen := false, prefetch := none,
      abandoned := abandonedAfter (s.finishCloseOf s.jw.flight).jw.abandoned
        ((s.finishCloseOf s.jw.flight).jw.flight.map JournalFlight.access) } := by
  rw [State.restartJournal_eq, State.settlePoll_jw]

theorem State.restartJournal_afl (s : State) :
    s.restartJournal.afl = (s.finishCloseOf s.jw.flight).afl := by
  rw [State.restartJournal_eq, State.settlePoll_afl]

theorem State.restart_eq (s : State) : s.restart = State.chainIdle { s.restartJournal with
    cc := { s.cc with
      positionValid := false,
      abandoned := abandonedAfter s.cc.abandoned (s.cc.flight.map ChainFlight.access) },
    tau := ⟨[], none⟩ } := by
  rw [State.restart, State.restartJournal_cc]
  rfl

theorem State.restart_afl (s : State) : s.restart.afl = s.restartJournal.afl := by
  rw [State.restart_eq, State.chainIdle_afl]

theorem State.restart_tau (s : State) : s.restart.tau = ⟨[], none⟩ := by
  rw [State.restart_eq, State.chainIdle_tau]

/-- A RESTART leaves nothing that waits, so the poll counter is 0 (R29). -/
theorem State.restart_pollCounter (s : State) : s.restart.tb.pollCounter = 0 := by
  rw [State.restart_eq, State.chainIdle_eq, State.settlePoll_of_still (fun h => by cases h)]
  intro h
  change s.restartJournal.jw.state = .waitingPage at h
  rw [State.restartJournal_jw] at h
  cases h

/-! ## A valid anchor read -/

theorem State.reopenJournal_jw (s : State) : s.reopenJournal.jw = { s.restartJournal.jw with
    state := .opening,
    mapIndex := if s.cc.anchor.mapLength ≤ s.restartJournal.jw.mapIndex then 0
      else s.restartJournal.jw.mapIndex,
    anchor := s.anchorAddress,
    flight := some ⟨.opening false, ⟨s.cc.anchor.mapBase + BitVec.ofNat 64
      ((if s.cc.anchor.mapLength ≤ s.restartJournal.jw.mapIndex then 0
        else s.restartJournal.jw.mapIndex) * 16), 0, .read 16⟩⟩ } := by
  rw [State.reopenJournal_eq, State.openPage_eq, State.settlePoll_jw, State.anchorAddress,
    State.restartJournal_cc]
  rfl

theorem State.reopenJournal_afl (s : State) :
    s.reopenJournal.afl = (s.finishCloseOf s.jw.flight).afl := by
  rw [State.reopenJournal_eq, State.openPage_afl]
  exact s.restartJournal_afl

theorem State.loadAnchor_afl (s : State) (f : AnchorFields) :
    (s.loadAnchor f).afl = (State.reopenJournal (State.flush { s with
      cc := { s.cc with anchor := f }, tb := { s.tb with pollCounter := 0 } })).afl := by
  simp [State.loadAnchor]

end Blocks

/-- Settles O12: the ticks that count, the tick that reaches the period, and the expiry alone. -/
theorem pollTicksCountAndExpire : Obligations.PollTicksCountAndExpire := by
  intro s
  have hexpires (h : s.pollCounting = true) (hreaches : s.pollReaches = true) {c : Instr}
      (hc : c = .pollTick ∨ c = .pollExpiry) : exec c s = .next s.pollExpiry := by
    obtain rfl | rfl := hc
    · change execPollTick s = _
      simp [execPollTick, h, hreaches]
    · change execPollExpiry s = _
      simp [execPollExpiry, h, hreaches]
  refine ⟨?_, s.settlePoll_eq, fun h => ⟨?_, ?_⟩, fun h hbelow => ⟨?_, ?_⟩,
    fun h hreaches c hc => ⟨_, hexpires h (by simpa [State.pollReaches] using hreaches) hc, ?_⟩⟩
  · simp [State.pollCounting, and_assoc]
  · change execPollTick s = _
    simp [execPollTick, h]
  · change execPollExpiry s = _
    simp [execPollExpiry, h]
  · change execPollTick s = _
    simp [execPollTick, h, State.pollReaches, hbelow]
  · change execPollExpiry s = _
    simp [execPollExpiry, h, State.pollReaches, hbelow]
  · refine ⟨?_, fun hwaiting => ?_, fun hother => ?_, fun hwaiting => ?_, fun hother => ?_⟩
    · refine State.eq_of_blocks rfl ?_ (by simp) (by simp) (by simp) (by simp) (by simp) (by simp) rfl
        (by simp) (by simp) (by simp)
      exact Timebase.eq_of_fields (by simp) (by simp) (by simp) s.pollExpiry_pollCounter
    · rw [State.pollExpiry_cc, if_pos hwaiting, State.readLink_cc]
    · rw [State.pollExpiry_cc, if_neg hother]
    · rw [State.pollExpiry_jw, if_pos hwaiting, State.openPage_eq, State.settlePoll_jw]
    · rw [State.pollExpiry_jw, if_neg hother]

/-- Settles O5: RESTART takes step 4 of an abandoned close, then clears CC, TAU and JW. -/
theorem restartAbandonsWorkAndFlushes : Obligations.RestartAbandonsWorkAndFlushes := by
  refine ⟨fun l a => ⟨rfl, fun n h => ?_, fun d h => ?_⟩, fun s hfree =>
    ⟨_, onRegisterWrite_of_free State.restart hfree, ?_, s.restart_cc, fun h => ?_, fun h => ?_,
      fun h hperiod => ?_⟩⟩
  · simp [abandonedAfter, Access.isWrite_of_read h]
  · simp [abandonedAfter, Access.isWrite_of_write h]
  · refine State.eq_of_other_blocks ?_ s.restart_tau (by simp) (by simp) (by simp) (by simp)
      (by simp) (by simp) (by simp)
    exact Timebase.eq_of_fields (by simp) (by simp) (by simp) s.restart_pollCounter
  all_goals rw [State.restart_jw, State.restart_afl, State.restartJournal_jw, State.restartJournal_afl]
  · rw [State.finishCloseOf_of_ne h]
    exact ⟨rfl, rfl⟩
  · rw [State.finishCloseOf_of_op h, State.finishClose_full]
    exact ⟨rfl, rfl⟩
  · rw [State.finishCloseOf_of_op h, State.finishClose_periodEnd hperiod]
    exact ⟨rfl, rfl⟩

theorem AnchorFields.valid_iff (f : AnchorFields) : f.valid = true ↔
    f.signature = Config.anchorSignature ∧ f.lowBound.toNat % 128 = 0 ∧
    f.highBound.toNat % 128 = 0 ∧ f.lowBound.toNat < f.highBound.toNat ∧
    f.chainHead.toNat % 128 = 0 ∧ f.lowBound.toNat ≤ f.chainHead.toNat ∧
    f.chainHead.toNat < f.highBound.toNat ∧ 1 ≤ f.routeCount ∧ f.routeCount ≤ 2048 ∧
    1 ≤ f.mapLength ∧ f.mapLength ≤ 1024 := by
  simp [AnchorFields.valid, AnchorFields.cellAddress, Addr.cellAligned, and_assoc]

/-- The bytes of an anchor read pass exactly these checks (R4). -/
theorem anchorFieldsOf_valid_iff (data : List Byte) : (anchorFieldsOf data).valid = true ↔
    leNat data 0 4 = 0x3134524F ∧ leNat data 16 8 % 128 = 0 ∧ leNat data 24 8 % 128 = 0 ∧
    leNat data 16 8 < leNat data 24 8 ∧ leNat data 8 8 % 128 = 0 ∧
    leNat data 16 8 ≤ leNat data 8 8 ∧ leNat data 8 8 < leNat data 24 8 ∧
    1 ≤ leNat data 64 2 ∧ leNat data 64 2 ≤ 2048 ∧
    1 ≤ leNat data 66 2 ∧ leNat data 66 2 ≤ 1024 := by
  have haddr (offset : Nat) : (addrAt data offset).toNat = leNat data offset 8 :=
    Nat.mod_eq_of_lt (leNat_lt data offset 8)
  rw [AnchorFields.valid_iff]
  simp only [anchorFieldsOf, haddr]
  rfl

/-- Settles O14: the checks, the load, and the ends of the engine-half writes that take a cell. -/
theorem anchorLoadsAndEngineHalfEndsTakeTheCell :
    Obligations.AnchorLoadsAndEngineHalfEndsTakeTheCell := by
  refine ⟨fun s a data hflight => ⟨rfl, rfl, anchorFieldsOf_valid_iff data, fun hbad => ?_,
    fun hvalid => ?_⟩, fun s a => ⟨fun hflight => ?_, fun n hflight => ?_⟩⟩
  · rw [exec_anchorReadEnd_of_flight hflight, hbad, if_neg Bool.false_ne_true, State.chainFault_eq]
  · refine ⟨s.endFlight.loadAnchor (anchorFieldsOf data), ?_, ?_⟩
    · rw [exec_anchorReadEnd_of_flight hflight, if_pos hvalid]
    have hjw := (s.endFlight.loadAnchor_jw (anchorFieldsOf data)).trans (State.reopenJournal_jw _)
    have hafl := (s.endFlight.loadAnchor_afl (anchorFieldsOf data)).trans (State.reopenJournal_afl _)
    generalize hbase : State.flush { s.endFlight with
      cc := { s.endFlight.cc with anchor := anchorFieldsOf data },
      tb := { s.endFlight.tb with pollCounter := 0 } } = u at hjw hafl
    have hujw : u.jw = s.jw := hbase ▸ rfl
    have huafl : u.afl = s.afl := hbase ▸ rfl
    have huaddress : u.anchorAddress = s.anchorAddress := hbase ▸ rfl
    have huanchor : u.cc.anchor = anchorFieldsOf data := hbase ▸ rfl
    rw [State.restartJournal_jw, State.finishCloseOf_mapIndex, huanchor, huaddress] at hjw
    refine ⟨?_, s.endFlight.loadAnchor_cc _, ?_⟩
    · refine State.eq_of_other_blocks ?_ ?_ (State.loadAnchor_groups ..) (State.loadAnchor_profiles ..)
        (State.loadAnchor_ct ..) (State.loadAnchor_agr ..) (State.loadAnchor_ru ..)
        (State.loadAnchor_resets ..) (State.loadAnchor_pending ..)
      · exact Timebase.eq_of_fields (State.loadAnchor_now ..) (State.loadAnchor_timeOfWeek ..)
          (State.loadAnchor_bands ..) (State.loadAnchor_pollCounter ..)
      · simp [State.loadAnchor, State.flush]
    rw [hjw, hafl, State.finishCloseOf_jw, ← hujw, ← huafl]
    refine ⟨rfl, rfl, rfl, rfl, rfl, rfl, rfl, rfl, rfl, rfl, rfl, fun h => ?_, fun h => ?_,
      fun h hperiod => ?_⟩
    · rw [State.finishCloseOf_of_ne h]
      exact ⟨rfl, rfl, rfl, rfl, rfl⟩
    · rw [State.finishCloseOf_of_op h, State.finishClose_full]
      exact ⟨rfl, rfl, rfl, rfl, rfl⟩
    · rw [State.finishCloseOf_of_op h, State.finishClose_periodEnd hperiod]
      exact ⟨rfl, rfl, rfl, rfl, rfl⟩
  · change execAnchorEngineWriteEnd s = _
    rw [execAnchorEngineWriteEnd, hflight]
    exact congrArg Host.Outcome.next (State.fetchCell_eq _)
  · change execRetireWriteEnd s = _
    rw [execRetireWriteEnd, hflight]
    exact congrArg Host.Outcome.next (State.fetchCell_eq _)

end Sys2Proof.Machine
end

section
/-! JW's steps and the ends of its accesses: O45 to O48 (R159, R162 to R165). -/

namespace Sys2Proof.Machine

section Steps

variable {s : State}

/-! ## The step JW takes next -/

theorem State.journalAdvance_of_free (hrunning : s.jw.state = .running) (hflight : s.jw.flight = none) :
    s.journalAdvance = match s.jw.close with
      | .full => s.writeHeader
      | .periodEnd => s.writeHeader
      | .none =>
        match s.jw.hold with
        | [] => s
        | .charge r :: _ => s.writeRecord .charge r.fields
        | .periodEnd p :: _ =>
          if s.jw.cursor.markerWritten then
            State.writeHeader { s with jw := { s.jw with close := .periodEnd } }
          else
            match nextSummary s.jw.snapshot s.jw.cursor.carrier with
            | some c =>
              State.writeRecord .summary
                (summaryFields c s.jw.period (snapshotAccount s.jw.snapshot c))
                { s with jw := { s.jw with cursor := { s.jw.cursor with carrier := c } } }
            | none =>
              State.writeRecord .marker
                (markerFields ((s.jw.snapshot.map (fun p => summarisedCount p.accounts)).getD 0) p
                  s.tb.timeOfWeek)
                { s with jw := { s.jw with cursor := { s.jw.cursor with carrier := 64 } } } := by
  unfold State.journalAdvance
  exact if_pos ⟨hrunning, hflight⟩

/-- Step 1 of a close, with its reason as a number (R164). -/
theorem State.writeHeader_of_close (s : State) {n : Nat} (h : s.jw.close.code = n) :
    s.writeHeader = { s with jw := { s.jw with
      flight := some ⟨.header, ⟨s.jw.page, 0, .write (layout 0 64
        [⟨0, 4, s.jw.sequence.toNat⟩, ⟨4, 1, s.jw.slot⟩, ⟨5, 1, n⟩,
          ⟨8, 4, s.jw.period.toNat⟩])⟩⟩ } } := by
  rw [← h]
  rfl

theorem State.journalAdvance_of_closing (hrunning : s.jw.state = .running)
    (hflight : s.jw.flight = none) (hclose : s.jw.close ≠ .none) : s.journalAdvance = s.writeHeader := by
  rw [State.journalAdvance_of_free hrunning hflight]
  split
  case h_1 => rfl
  case h_2 => rfl
  case h_3 h => exact absurd h hclose

theorem ClosePending.code_of_ne {k : ClosePending} (h : k ≠ .none) :
    k.code = if k = .full then 1 else 2 := by
  cases k with
  | none => exact absurd rfl h
  | full => rfl
  | periodEnd => rfl

theorem Account.summarised_iff (a : Account) : a.summarised = true ↔
    ¬ (a.payable = 0 ∧ a.receivable = 0 ∧ a.outSeconds = 0 ∧ a.inSeconds = 0 ∧ a.outCalls = 0 ∧
      a.inCalls = 0 ∧ a.sat = false) := by
  simp only [Account.summarised, Bool.or_eq_true, bne_iff_ne, ne_eq]
  cases a.sat <;> simp
  tauto

theorem snapshotAccount_some (p : Snapshot) (n : CarrierId) :
    snapshotAccount (some p) n.val = p.accounts[n] := by
  simp [snapshotAccount]

/-- The next carrier to summarise is the first from the cursor on (R165). -/
theorem nextSummary_eq_some {p : Snapshot} {k : Nat} {n : CarrierId} (hk : k ≤ n.val)
    (hn : p.accounts[n].summarised = true)
    (hfirst : ∀ m : CarrierId, k ≤ m.val → m < n → p.accounts[m].summarised = false) :
    nextSummary (some p) k = some n.val := by
  rw [nextSummary, List.find?_range'_eq_some]
  refine ⟨by rwa [snapshotAccount_some], List.mem_range'_1.mpr ⟨hk, by omega⟩, fun m hm hmn => ?_⟩
  have hfalse := hfirst ⟨m, by omega⟩ hm hmn
  rw [← snapshotAccount_some] at hfalse
  simp [hfalse]

theorem nextSummary_eq_none {p : Snapshot} {k : Nat}
    (hnone : ∀ m : CarrierId, k ≤ m.val → p.accounts[m].summarised = false) :
    nextSummary (some p) k = none := by
  rw [nextSummary, List.find?_range'_eq_none]
  intro m hm hlt
  have hfalse := hnone ⟨m, by omega⟩ hm
  rw [← snapshotAccount_some] at hfalse
  simp [hfalse]

theorem summarisedCount_eq (accounts : Vector Account 64) : summarisedCount accounts =
    (List.finRange 64).countP fun n => accounts[n].summarised := by
  have hlist : accounts.toList = (List.finRange 64).map fun n => accounts[n] := by
    rw [← List.ofFn_eq_map, ← Vector.toList_ofFn]
    exact congrArg Vector.toList (Vector.ext fun j hj => by simp)
  rw [summarisedCount, hlist, List.countP_map]
  rfl

end Steps

/-- Settles O45: the branches of JW's step. -/
theorem journalTakesItsNextStep : Obligations.JournalTakesItsNextStep := by
  refine ⟨Account.summarised_iff, fun s => State.journalAdvance_of_busy, fun s hrunning hflight =>
    ⟨fun hclose => ?_, fun hclose hempty => ?_, fun r rest hclose hhold => ?_,
      fun closed rest p hclose hhold hsnapshot => ⟨fun n hmarker hn hsum hfirst => ?_,
        fun hmarker hnone => ?_, fun hmarker => ?_⟩⟩⟩
  · rw [State.journalAdvance_of_closing hrunning hflight hclose,
      s.writeHeader_of_close (ClosePending.code_of_ne hclose)]
  all_goals rw [State.journalAdvance_of_free hrunning hflight]
  · rw [hclose, hempty]
  · rw [hclose, hhold]
    rfl
  · rw [hclose, hhold]
    simp only [hmarker, hsnapshot, nextSummary_eq_some hn hsum hfirst, snapshotAccount_some,
      Bool.false_eq_true, if_false]
    rfl
  · rw [hclose, hhold]
    simp only [hmarker, hsnapshot, nextSummary_eq_none hnone, Bool.false_eq_true, if_false]
    rw [Option.map_some, Option.getD_some, summarisedCount_eq]
    rfl
  · rw [hclose, hhold]
    simp only [hmarker, if_true]
    rfl

section Ends

variable {s : State}

theorem mapEntryOf_eq (data : List Byte) :
    mapEntryOf data = ⟨(byteAt data 8).getLsbD 0, BitVec.ofNat 64 (leNat data 0 8)⟩ := rfl

/-- One byte of a written extent. -/
theorem layout_single (start value : Nat) :
    layout start 1 [⟨start, 1, value⟩] = [BitVec.ofNat 8 value] := by
  simp [layout, layoutByte, Field.covers, Field.byte]

theorem exec_openingReadEnd_of_flight {reread : Bool} {a : Access}
    (h : s.jw.flight = some ⟨.opening reread, a⟩) (data : List Byte) :
    exec (.openingReadEnd data) s = .next (if (byteAt data 8).getLsbD 0
      then s.enterPage (BitVec.ofNat 64 (leNat data 0 8)) else s.waitForPage reread) := by
  change execOpeningReadEnd data s = _
  rw [execOpeningReadEnd, h]
  rfl

/-- WAITING_PAGE is entered with JSTALL unless the opening was a re-read (R159). -/
def State.inWaitingPage (reread : Bool) (s : State) : State :=
  State.settlePoll { s with
    jw := { s.jw with state := .waitingPage, flight := none },
    afl := if reread = true then s.afl else s.afl.raise .jstall }

/-- With journal nudge-seen set the entry is read again at once (R159). -/
theorem State.waitForPage_eq (reread : Bool) (s : State) : s.waitForPage reread =
    if s.jw.nudgeSeen then
      State.openPage true { s.inWaitingPage reread with
        jw := { (s.inWaitingPage reread).jw with nudgeSeen := false } }
    else s.inWaitingPage reread := by
  have hentered : (let t := { s with jw := { s.jw with flight := none } }.enterJournal .waitingPage
      if reread then t else t.raise .jstall) = s.inWaitingPage reread := by
    cases reread <;> simp only [State.inWaitingPage, State.enterJournal, State.settlePoll_eq] <;> rfl
  have hnudge : (s.inWaitingPage reread).jw.nudgeSeen = s.jw.nudgeSeen := by
    rw [State.inWaitingPage, State.settlePoll_jw]
  rw [← hnudge, ← hentered]
  rfl

theorem exec_recordCountWriteEnd_of_flight {k : RecordKind} {a : Access}
    (h : s.jw.flight = some ⟨.count k, a⟩) : exec .recordCountWriteEnd s = .next
      (State.afterCount k (State.recordCounted k { s with jw := { s.jw with flight := none } })) := by
  change execRecordCountWriteEnd s = _
  rw [execRecordCountWriteEnd, h]

/-- What leaves or moves at the end of a count write: the CHARGE at the head, the carrier of a summary, the
marker (R162, R165). -/
theorem State.recordCounted_eq {k : RecordKind} {hold : List HoldEntry} {cursor : Cursor}
    (h : (k = .charge ∧ cursor = s.jw.cursor ∧ ∃ r, s.jw.hold = .charge r :: hold) ∨
      (k = .summary ∧ hold = s.jw.hold ∧
        cursor = { s.jw.cursor with carrier := s.jw.cursor.carrier + 1 }) ∨
      (k = .marker ∧ hold = s.jw.hold ∧ cursor = { s.jw.cursor with markerWritten := true })) :
    State.recordCounted k { s with jw := { s.jw with flight := none } } =
      { s with jw := { s.jw with hold := hold, cursor := cursor, flight := none } } := by
  obtain ⟨rfl, rfl, r, hhold⟩ | ⟨rfl, rfl, rfl⟩ | ⟨rfl, rfl, rfl⟩ := h
  · simp only [State.recordCounted, hhold]
  · rfl
  · rfl

theorem State.afterCount_of_last {k : RecordKind} (hk : k ≠ .marker) (hslot : s.jw.slot = 63) :
    s.afterCount k = State.journalAdvance { s with jw := { s.jw with close := .full } } := by
  cases k with
  | marker => exact absurd rfl hk
  | charge => exact if_pos hslot
  | summary => exact if_pos hslot

theorem State.afterCount_of_ne {k : RecordKind} (hk : k ≠ .marker) (hslot : s.jw.slot ≠ 63) :
    s.afterCount k = if s.jw.slot = Config.prefetchSlot
      then State.issuePrefetch { s with jw := { s.jw with slot := s.jw.slot + 1 } }
      else State.journalAdvance { s with jw := { s.jw with slot := s.jw.slot + 1 } } := by
  cases k with
  | marker => exact absurd rfl hk
  | charge => exact if_neg hslot
  | summary => exact if_neg hslot

/-- Without a VALID prefetch result the next page is opened by a read (R163). -/
theorem State.openAfterClose_of_unread
    (h : s.jw.prefetch = none ∨ ∃ page, s.jw.prefetch = some ⟨false, page⟩) : s.openAfterClose =
      State.openPage false { s with jw := { s.jw with prefetch := none, flight := none } } := by
  obtain h | ⟨page, h⟩ := h <;> rw [State.openAfterClose, h]

/-- Step 4 of a close whose write ends in a fault that is offered first (R164). -/
theorem State.finishClose_offered {u : State} {periodEnd : Bool} (base : Addr)
    (hu : (periodEnd = false ∧ u = { s with afl := s.afl.raise .page }) ∨
      (periodEnd = true ∧ s.jw.atPeriodEnd = true ∧ u = { s with
        afl := (s.afl.raise .page).raise .period,
        jw := { s.jw with
          hold := s.jw.hold.tail, snapshot := none, period := s.jw.period + 1,
          cursor := ⟨0, false⟩ } })) :
    ∃ x, (s.offerFault .errorReply .journal base).finishClose periodEnd = { u with afl := x } ∧
      x.capture = some (captureAfter .errorReply .journal base s.afl.capture) ∧
      x.status = u.afl.status ||| 0b100000 := by
  obtain ⟨rfl, rfl⟩ | ⟨rfl, hperiod, rfl⟩ := hu
  · refine ⟨_, State.finishClose_full _, by simp [State.offerFault], ?_⟩
    simp only [State.offerFault, AttentionLogic.raise_status, AttentionLogic.offer_status]
    rw [show (0b100000 : CauseBits) = Cause.fault.mask from rfl]
    ac_rfl
  · refine ⟨_, State.finishClose_periodEnd hperiod, by simp [State.offerFault], ?_⟩
    simp only [State.offerFault, AttentionLogic.raise_status, AttentionLogic.offer_status]
    rw [show (0b100000 : CauseBits) = Cause.fault.mask from rfl]
    ac_rfl

end Ends

/-- Settles O46: the end of an opening read by VALID and journal nudge-seen. -/
theorem openingReadOpensOrWaits : Obligations.OpeningReadOpensOrWaits := by
  intro s reread a data hflight
  have hrun := exec_openingReadEnd_of_flight hflight data
  refine ⟨fun hvalid => ?_, fun hinvalid hnudge => ?_, fun hinvalid hnudge =>
    ⟨s.waitForPage reread, ?_, ?_, ?_⟩⟩
  · rw [hrun, if_pos hvalid]
    rfl
  · rw [hrun, hinvalid, if_neg Bool.false_ne_true, State.waitForPage_eq, hnudge,
      if_neg Bool.false_ne_true, State.inWaitingPage]
  · rw [hrun, hinvalid, if_neg Bool.false_ne_true]
  · rw [State.waitForPage_eq, hnudge, if_pos rfl, State.openPage_eq, State.inWaitingPage,
      State.settlePoll_eq, State.settlePoll_eq]
  · rw [hinvalid, if_neg Bool.false_ne_true] at hrun
    exact (exec_effect hrun).pollSound

/-- Settles O47: the end of each access of a record and of a close. -/
theorem recordAndClosingStepsFollowInOrder : Obligations.RecordAndClosingStepsFollowInOrder := by
  refine ⟨⟨fun s k a hflight => ?_, fun s k a hold cursor hflight hcounted =>
    ⟨fun hk hslot => ?_, fun hk hslot hslot' => ?_, fun hslot => ?_, fun hk hslot => ?_⟩⟩,
    fun s a data hflight => ?_, fun s a hflight => ?_, fun s a index hflight hindex => ?_⟩
  · change execRecordWriteEnd s = _
    rw [execRecordWriteEnd, hflight]
    refine congrArg Host.Outcome.next ?_
    rw [State.writeCount, layout_single]
    rfl
  · rw [exec_recordCountWriteEnd_of_flight hflight, State.recordCounted_eq hcounted]
    exact congrArg Host.Outcome.next (State.afterCount_of_last hk hslot)
  · rw [exec_recordCountWriteEnd_of_flight hflight, State.recordCounted_eq hcounted]
    refine congrArg Host.Outcome.next ((State.afterCount_of_ne hk ?_).trans (if_neg ?_))
    · exact hslot
    · exact hslot'
  · rw [exec_recordCountWriteEnd_of_flight hflight, State.recordCounted_eq hcounted]
    refine congrArg Host.Outcome.next ?_
    by_cases hk : k = .marker
    · rw [if_pos hk, hk, ← hslot]
      exact if_pos hslot
    · rw [if_neg hk, show 49 = s.jw.slot + 1 by rw [hslot]]
      exact (State.afterCount_of_ne hk (by simp [hslot])).trans (if_pos hslot)
  · rw [exec_recordCountWriteEnd_of_flight hflight, State.recordCounted_eq hcounted, hk]
    exact congrArg Host.Outcome.next (if_neg hslot)
  · change execPrefetchReadEnd data s = _
    rw [execPrefetchReadEnd, hflight]
    rfl
  · change execClosingHeaderWriteEnd s = _
    rw [execClosingHeaderWriteEnd, hflight]
    rfl
  · change execMapEntryClearEnd s = _
    rw [execMapEntryClearEnd, hflight, hindex]
    rfl

/-- Settles O48: the opening after step 4, and the same step at a fault of its write. -/
theorem engineWriteCompletesTheClose : Obligations.EngineWriteCompletesTheClose := by
  intro s u periodEnd a hflight hu
  have hclosed : s.finishClose periodEnd = u := by
    obtain ⟨rfl, rfl⟩ | ⟨rfl, hperiod, rfl⟩ := hu
    · exact s.finishClose_full
    · exact State.finishClose_periodEnd hperiod
  have hrun : exec .journalEngineWriteEnd s = .next u.openAfterClose := by
    change execJournalEngineWriteEnd s = _
    rw [execJournalEngineWriteEnd, hflight, ← hclosed]
  have hprefetch : u.jw.prefetch = s.jw.prefetch := by
    obtain ⟨-, rfl⟩ | ⟨-, -, rfl⟩ := hu <;> rfl
  have hindex : u.jw.mapIndex = s.jw.mapIndex := by
    obtain ⟨-, rfl⟩ | ⟨-, -, rfl⟩ := hu <;> rfl
  have hcc : u.cc = s.cc := by
    obtain ⟨-, rfl⟩ | ⟨-, -, rfl⟩ := hu <;> rfl
  refine ⟨fun page hpage => ?_, fun hpage => ?_, ?_⟩
  · rw [hrun, State.openAfterClose, hprefetch, hpage]
    rfl
  · rw [hrun, State.openAfterClose_of_unread (by rwa [hprefetch]), State.openPage_eq, hcc, hindex]
  · refine ⟨s.journalFault .errorReply ⟨.engineWrite periodEnd, a⟩, ?_, ?_⟩
    · change execJournalErrorReply s = _
      rw [execJournalErrorReply, hflight]
    obtain ⟨x, hx, hcapture, hstatus⟩ := State.finishClose_offered a.base hu
    rw [State.journalFault_eq, State.finishCloseOf_of_op (periodEnd := periodEnd) rfl, hx,
      State.settlePoll_eq]
    have htb : u.tb = s.tb := by obtain ⟨-, rfl⟩ | ⟨-, -, rfl⟩ := hu <;> rfl
    exact ⟨by rw [htb], hcapture, hstatus⟩

end Sys2Proof.Machine
end

section
/-! Expiries and ticks: O11 and O27 (R25, R73 to R75, R87 to R89, R125). -/

namespace Sys2Proof.Machine

section Groups

variable {r : Group} {q : QuietTimer} {now : Tick}

/-! ## One group -/

theorem Group.quietDue_iff : r.quietDue now = true ↔
    ∃ q, r.quiet = some q ∧ q.window ≤ (now - q.start).toNat := by
  cases h : r.quiet with
  | none => simp [Group.quietDue, h]
  | some q =>
    simp only [Group.quietDue, h, elapsed, Option.some.injEq, exists_eq_left']
    exact decide_eq_true_iff

theorem Group.quietExpiry_of_zero (h : r.level = 0) (row : Vector Control 4) :
    r.quietExpiry row now = (r.rest, false) := if_pos h

theorem Group.stepDown_eq {l : Level} (h : levelDown r.level = l) (row : Vector Control 4) :
    r.stepDown row now = { r with
      level := l, control := row[l], thinning := 0, change := .level,
      quiet := some ⟨quietWindow r.fi row[l].decay, now⟩ } := by
  simp only [Group.stepDown, h]
  rfl

theorem Group.quietExpiry_of_auto {l : Level} (hmode : r.mode = .auto)
    (hlevel : r.level.val = l.val + 1) (row : Vector Control 4) :
    r.quietExpiry row now = ({ r with
      level := l, control := row[l], thinning := 0, change := .level,
      quiet := some ⟨quietWindow r.fi row[l].decay, now⟩ }, true) := by
  have hne : r.level ≠ 0 := fun h => by simp [h] at hlevel
  have hdown : levelDown r.level = l := Fin.ext (by simp [levelDown, hlevel])
  rw [Group.quietExpiry, if_neg hne, ← Group.stepDown_eq hdown]
  split
  case h_1 => rfl
  case h_2 h =>
    rw [hmode] at h
    cases h

theorem Group.quietExpiry_of_held (hmode : r.mode = .held) (hlevel : r.level ≠ 0)
    (hquiet : r.quiet = some q) (row : Vector Control 4) : r.quietExpiry row now =
      ({ r with change := .adviseDown, quiet := some ⟨q.window, now⟩ }, true) := by
  rw [Group.quietExpiry, if_neg hlevel]
  split
  case h_1 h =>
    rw [hmode] at h
    cases h
  case h_2 =>
    simp only [Group.adviseDown, hquiet]
    rfl

/-- A quiet expiry sets a change flag exactly at a level above 0 (R87 to R89). -/
theorem Group.quietExpiry_flag (r : Group) (row : Vector Control 4) :
    (r.quietExpiry row now).2 = true ↔ r.level ≠ 0 := by
  unfold Group.quietExpiry
  split
  case isTrue h => simp [h]
  case isFalse h => split <;> simp [h]

/-- The group after the end of a hold-off that falls on this now (R75). -/
def Group.afterHoldOff (now : Tick) (r : Group) : Group :=
  { r with holdOffEnd := if r.holdOffEnd = some now then none else r.holdOffEnd }

theorem Group.takeExpiries_eq (row : Vector Control 4) : r.takeExpiries row now =
    if r.quietDue now then (r.afterHoldOff now).quietExpiry row now
      else (r.afterHoldOff now, false) := by
  have hhold : (if r.holdOffDue now then r.endHoldOff else r) = r.afterHoldOff now := by
    unfold Group.holdOffDue Group.afterHoldOff
    by_cases h : r.holdOffEnd = some now
    · simp [h, Group.endHoldOff]
    · simp [h]
  rw [Group.takeExpiries, hhold]

theorem Group.takeExpiries_flag (row : Vector Control 4) :
    (r.takeExpiries row now).2 = true ↔ r.quietDue now = true ∧ r.level ≠ 0 := by
  rw [Group.takeExpiries_eq]
  split
  case isTrue h => rw [Group.quietExpiry_flag]; simp [h, Group.afterHoldOff]
  case isFalse h => simp [h]

end Groups

section Overdue

variable {s : State}

theorem Context.overdueAt_iff {limit : Nat} {now : Tick} {c : Context} :
    c.overdueAt limit now = true ↔ limit ≠ 0 ∧ c.state = .seized ∧ c.overdue = false ∧
      c.overdueReported = false ∧ limit * 100 ≤ (now - c.seizeTick).toNat := by
  simp only [Context.overdueAt, Bool.and_eq_true, bne_iff_ne, beq_iff_eq, Bool.not_eq_true',
    decide_eq_true_eq, and_assoc]
  rfl

theorem State.overdueBy_iff {limit : Nat} {i : CtxId} :
    s.OverdueBy limit i ↔ (s.context i).overdueAt limit s.now = true := Context.overdueAt_iff.symm

theorem State.quietDue_iff {g : GroupId} :
    (s.group g).quietDue s.now = true ↔ ∃ q, s.QuietDue g q := Group.quietDue_iff

theorem Vector.any_toList_iff {α : Type} {n : Nat} (v : Vector α n) (p : α → Bool) :
    v.toList.any p = true ↔ ∃ i : Fin n, p v[i] = true := by
  rw [List.any_eq_true]
  constructor
  · rintro ⟨x, hx, hp⟩
    obtain ⟨i, hi, rfl⟩ := Vector.mem_iff_getElem.mp (Vector.mem_toList_iff.mp hx)
    exact ⟨⟨i, hi⟩, hp⟩
  · rintro ⟨i, hp⟩
    exact ⟨v[i], Vector.mem_toList_iff.mpr (Vector.getElem_mem i.isLt), hp⟩

/-- Some group sets a change flag at this tick (R87, R88). -/
theorem State.any_groupExpiries_iff (s : State) :
    s.groups.toList.any (fun r => (s.groupExpiries r).2) = true ↔
      ∃ g q, s.QuietDue g q ∧ (s.group g).level ≠ 0 := by
  rw [Vector.any_toList_iff]
  refine exists_congr fun g => ?_
  have hflag := (s.group g).takeExpiries_flag (now := s.now) (s.profileRow (s.group g).profileSet)
  rw [State.quietDue_iff, exists_and_right.symm] at hflag
  exact hflag

theorem State.any_overdue_iff (s : State) (limit : Nat) :
    s.ct.contexts.toList.any (Context.overdueAt limit s.now) = true ↔ ∃ i, s.OverdueBy limit i := by
  rw [Vector.any_toList_iff]
  exact exists_congr fun i => State.overdueBy_iff.symm

/-- Some expiry of this tick sets a change flag or an overdue flag (R91, R125). -/
def State.tickFlags (s : State) : Bool :=
  s.groups.toList.any (fun r => (s.groupExpiries r).2) ||
    s.ct.contexts.toList.any (Context.overdueAt s.ct.limitAtTick s.now)

theorem State.tickFlags_iff (s : State) : s.tickFlags = true ↔
    (∃ g q, s.QuietDue g q ∧ (s.group g).level ≠ 0) ∨ ∃ i, s.OverdueBy s.ct.limitAtTick i := by
  rw [State.tickFlags, Bool.or_eq_true, State.any_groupExpiries_iff, State.any_overdue_iff]

theorem State.ticked_eq (s : State) : s.takeGroupExpiries.takeOverdueExpiries.advanceTick = { s with
    tb := { s.tb with now := s.tb.now + 1, timeOfWeek := nextTimeOfWeek s.tb.timeOfWeek },
    groups := s.groups.map (fun r => (s.groupExpiries r).1),
    ct := { s.ct with
      contexts := s.ct.contexts.map s.takeOverdue, limitAtTick := s.ct.answerLimit },
    afl := if s.tickFlags then s.afl.raise .change else s.afl } := by
  have hafl : (if s.ct.contexts.toList.any (Context.overdueAt s.ct.limitAtTick s.now) then
      AttentionLogic.raise .change
        (if s.groups.toList.any (fun r => (s.groupExpiries r).2) then s.afl.raise .change else s.afl)
      else if s.groups.toList.any (fun r => (s.groupExpiries r).2) then s.afl.raise .change
        else s.afl) = if s.tickFlags then s.afl.raise .change else s.afl := by
    unfold State.tickFlags
    cases s.groups.toList.any (fun r => (s.groupExpiries r).2) <;>
      cases s.ct.contexts.toList.any (Context.overdueAt s.ct.limitAtTick s.now) <;>
      simp [AttentionLogic.raise_raise]
  rw [← hafl, State.advanceTick, State.takeOverdueExpiries_eq, State.takeGroupExpiries_eq]
  rfl

/-- One tick on, around the end of the week (R25, R26). -/
theorem nextTimeOfWeek_eq (t : TimeOfWeek) : nextTimeOfWeek t = Fin.ofNat 60480000 (t.val + 1) := by
  unfold nextTimeOfWeek
  split
  case isTrue h => exact Fin.ext (Nat.mod_eq_of_lt h).symm
  case isFalse h =>
    have hlast : t.val + 1 = 60480000 := by omega
    exact Fin.ext (by simp [hlast])

end Overdue

/-- Settles O27: each expiry command on the record it is due on. -/
theorem expiriesActOnTheirRecord : Obligations.ExpiriesActOnTheirRecord := by
  refine ⟨fun r k m hk hm => ?_, fun s g r q hr hquiet hwindow => ?_, fun s g hend => ?_,
    fun s i c limit hc hlimit hne hseized hmark hreported hage => ?_⟩
  · have hdepth : k = r.depth.value := hk
    by_cases hempty : r.history = []
    · rw [if_pos hempty, Group.fi, hempty]
      rfl
    · rw [if_neg hempty, Group.fi, filteredInterval_of_ne_nil hempty, hm, hdepth]
  · subst hr
    have hdue : (s.group g).quietDue s.now = true := Group.quietDue_iff.mpr ⟨q, hquiet, hwindow⟩
    have hrun : exec (.quietExpiry g) s = .next (s.monitor g
        ((s.group g).quietExpiry (s.profileRow (s.group g).profileSet) s.now)) := by
      change execQuietExpiry g s = _
      simp only [execQuietExpiry, hdue, if_true]
    rw [hrun]
    refine ⟨fun hzero => ?_, fun l c hmode hlevel hc => ?_, fun hmode hlevel => ?_⟩
    · rw [Group.quietExpiry_of_zero hzero]
      rfl
    · rw [Group.quietExpiry_of_auto hmode hlevel, ← hc]
      rfl
    · rw [Group.quietExpiry_of_held hmode hlevel hquiet]
      rfl
  · change execHoldOffEnd g s = _
    have hdue : (s.group g).holdOffDue s.now = true := by simp [Group.holdOffDue, hend]
    simp only [execHoldOffEnd, hdue, if_true]
    rfl
  · subst hc
    change execOverdueExpiry i s = _
    have hdue : s.overdueDue i = true := by
      have hat : (s.context i).overdueAt limit s.now = true :=
        Context.overdueAt_iff.mpr ⟨hne, hseized, hmark, hreported, hage⟩
      obtain rfl | rfl := hlimit
      · exact Bool.or_eq_true_iff.mpr (.inr hat)
      · exact Bool.or_eq_true_iff.mpr (.inl hat)
    rw [execOverdueExpiry, if_pos hdue]
    rfl

/-- Settles O11: the expiries due are taken record by record, then both counts advance. -/
theorem tickAdvancesBothCounts : Obligations.TickAdvancesBothCounts := by
  intro s hfree
  have hcontext (i : CtxId) : (s.takeGroupExpiries.takeOverdueExpiries.advanceTick).context i =
      s.takeOverdue (s.context i) := by
    rw [State.ticked_eq]
    exact Vector.getElem_map ..
  refine ⟨_, execTickAdvance_eq hfree, ?_, fun g r h hr hh => ?_, fun i => ⟨fun hdue => ?_, fun hdue => ?_⟩,
    fun hflag => ?_, fun hnone => ?_⟩
  · rw [State.ticked_eq, nextTimeOfWeek_eq]
  · have hgroup : (s.takeGroupExpiries.takeOverdueExpiries.advanceTick).group g =
        (r.takeExpiries (s.profileRow r.profileSet) s.now).1 := by
      rw [State.group_congr (State.advanceTick_groups _),
        State.group_congr (State.takeOverdueExpiries_groups _), State.takeGroupExpiries_group, hr]
      rfl
    have hafter : r.afterHoldOff s.now = h := hh.symm
    rw [hgroup, Group.takeExpiries_eq, hafter]
    refine ⟨fun hnot => ?_, fun q hq => ?_⟩
    · rw [if_neg]
      rw [hr, State.quietDue_iff]
      exact fun ⟨q, hq⟩ => hnot q hq
    · rw [if_pos (hr ▸ State.quietDue_iff.mpr ⟨q, hq⟩)]
      have hquiet : h.quiet = some q := by
        rw [hh, hr]
        exact hq.1
      refine ⟨fun hzero => ?_, fun l c hmode hlevel hc => ?_, fun hmode hlevel => ?_⟩
      · rw [Group.quietExpiry_of_zero (by rw [hh]; exact hzero)]
        rfl
      · rw [Group.quietExpiry_of_auto (by rw [hh]; exact hmode) (by rw [hh]; exact hlevel), ← hc, hh]
        rfl
      · rw [Group.quietExpiry_of_held (by rw [hh]; exact hmode) (by rw [hh]; exact hlevel) hquiet]
  · rw [hcontext, State.takeOverdue, if_pos (State.overdueBy_iff.mp hdue)]
  · rw [hcontext, State.takeOverdue, if_neg (mt State.overdueBy_iff.mpr hdue)]
  · rw [State.ticked_eq, if_pos (s.tickFlags_iff.mpr hflag)]
  · rw [State.ticked_eq, if_neg (mt s.tickFlags_iff.mp hnone)]

end Sys2Proof.Machine
end

section
/-! The line cache: what the end of a fill does, and INVALIDATE: O20, O21 and O22 (R39 to R41, R44,
R45). -/

namespace Sys2Proof.Machine

section Fills

variable {s t u : State}

/-! ## A fill in flight is for a line that is not held (R39, R40) -/

/-- The fill in flight, if any, asks for a line that is not held, at its address. -/
def State.FillAsked (s : State) : Prop :=
  ∀ f, s.tau.fill = some f → s.lookup f.tag = none ∧ f.address = s.lineAddress f.tag

theorem State.fillAsked_of_none (h : s.tau.fill = none) : s.FillAsked := fun f hf => by
  rw [h] at hf
  cases hf

theorem State.FillAsked.congr (hs : s.FillAsked) (htau : t.tau = s.tau)
    (hanchor : t.cc.anchor = s.cc.anchor) : t.FillAsked := by
  intro f hf
  rw [htau] at hf
  rw [State.lookup, htau, State.lineAddress, hanchor]
  exact hs f hf

theorem State.startFill_fillAsked {tag : Tag} (hmiss : s.lookup tag = none) (r : Requester) :
    (s.startFill tag r).FillAsked := by
  rintro f ⟨⟩
  exact ⟨hmiss, rfl⟩

theorem State.Considered.fillAsked (h : s.Considered t) (hs : s.FillAsked) : t.FillAsked :=
  hs.congr h.tau (by rw [h.cc])

theorem State.WalkNext.fillAsked {p : WalkFor} (h : State.WalkNext p s t) (hs : s.FillAsked) :
    t.FillAsked := by
  cases h with
  | exhausted => exact hs.congr (by simp) (by simp)
  | goesOn _ _ h => exact (h.fillAsked hs).congr rfl rfl
  | waits _ _ _ hmiss => exact State.startFill_fillAsked hmiss _
  | admitted _ _ _ _ _ h => exact (h.fillAsked hs).congr (by simp) (by simp)

theorem State.SeizeNext.fillAsked (h : s.SeizeNext t) (hs : s.FillAsked) : t.FillAsked := by
  cases h with
  | refused => exact hs.congr (by simp) (by simp)
  | waits _ _ hmiss => exact State.startFill_fillAsked hmiss _
  | walks => exact hs.congr rfl rfl

theorem Requester.Next.fillAsked {r : Requester} (h : r.Next s t) (hs : s.FillAsked) :
    t.FillAsked := by
  cases h with
  | seize _ h => exact h.fillAsked hs
  | walk _ _ h => exact h.fillAsked hs
  | freed => exact hs.congr (by simp) (by simp)

/-! ## What a table fault leaves -/

theorem Requester.onFault_tau (r : Requester) (s : State) : (r.onFault s).tau = s.tau := by
  cases r with
  | crankRoute i => simp [Requester.onFault]
  | owner w => rfl
  | _ => exact State.complete_tau ..

theorem Requester.onFault_afl (r : Requester) (s : State) : (r.onFault s).afl = s.afl := by
  cases r with
  | crankRoute i => simp [Requester.onFault]
  | owner w => rfl
  | _ => exact State.complete_afl ..

theorem Requester.onFault_state (r : Requester) (h : s.cc.state = .working) :
    (r.onFault s).cc.state = .working := by
  cases r with
  | owner w => exact h
  | _ => exact congrArg ChainController.state (State.complete_cc ..)

/-- FAULT is bit 5 of ATTN_STATUS (section 12.2). -/
theorem AttentionLogic.offer_getLsbD (a : AttentionLogic) (kind : FaultKind) (agent : Agent)
    (address : Addr) : (a.offer kind agent address).status.getLsbD 5 = true := by
  rw [AttentionLogic.offer_status, BitVec.getLsbD_or]
  exact Bool.or_true _

/-- A crankback that ends before its first choice frees its call (R114). -/
theorem State.endCrankback_of_live {i : CtxId} {x : Context} (hx : s.context i = x)
    (hlive : x.live = true) (code : ResultCode) : s.endCrankback i code [] = State.complete code
      [⟨64, 2, handleOf i x.generation⟩, ⟨92, 2, x.group⟩, ⟨73, 1, 0⟩]
      { s with
        groups := s.groups.set x.group { s.group x.group with busy := (s.group x.group).busy - 1 },
        ct := { s.ct with
          contexts := s.ct.contexts.set i x.freed, freeFifo := s.ct.freeFifo ++ [i] } } := by
  rw [State.endCrankback, State.freeContext_of_live hx hlive, State.liveHandle, hx]
  rfl

/-! ## INVALIDATE -/

theorem invalidateOperandsGood_iff {mask index : Nat} {present : Bool} :
    invalidateOperandsGood mask index present = true ↔ ¬ (8 ≤ mask ∨
      (present = true ∧ (2047 < index ∨ (mask.testBit 0 = true ∧ 999 < index)))) := by
  cases present <;> cases hbit : mask.testBit 0 <;> simp [invalidateOperandsGood, hbit]

theorem exec_invalidate_of_inHand {c : FetchedCell} (h : s.InHand .invalidate c) :
    exec .invalidate s = .next (invalidateRequest c s) := onRequest_of_inHand h invalidateRequest

end Fills

/-- Settles O20: the bytes join the tail under their tag, and the request goes on from there. -/
theorem fillCompletionInstallsLine : Obligations.FillCompletionInstallsLine := by
  refine ⟨fun s tag => ⟨State.lookup_eq_none, fun line h => ?_, ?_, fun h => ?_, fun h => ?_,
    fun h => ?_⟩, fun s f data hfill => ?_⟩
  · obtain ⟨l, hfound, hbytes⟩ := Option.map_eq_some_iff.mp h
    exact ⟨l, List.mem_of_find?_eq_some hfound, by simpa using List.find?_some hfound, hbytes⟩
  · cases h : tag.kind <;> rfl
  · simp only [State.lineAddress, h]
    rfl
  · simp only [State.lineAddress, h]
    rfl
  · simp only [State.lineAddress, h]
    rfl
  · have hrun : exec (.fillCompletion data) s = .next (f.requester.onLine
        (readBytes f.tag.kind.bytes data) { s with tau := {
          lines := installLine ⟨f.tag, readBytes f.tag.kind.bytes data⟩ s.tau.lines,
          fill := none } }) := by
      change execFillCompletion data s = _
      rw [execFillCompletion, hfill]
    have hnext := f.requester.onLine_next (readBytes f.tag.kind.bytes data) { s with tau := {
          lines := installLine ⟨f.tag, readBytes f.tag.kind.bytes data⟩ s.tau.lines,
          fill := none } }
    have hframe := (State.RouteEffect.filled f data hfill).frame
    refine ⟨_, hrun, ?_, hnext.routeFrame.lines.trans (installLine_eq _ _), ?_⟩
    · exact State.eq_of_blocks rfl
        (Timebase.eq_of_fields hframe.now hframe.timeOfWeek hframe.bands rfl) rfl rfl hframe.profiles rfl
        hframe.agr hframe.ru hframe.jw rfl hframe.resets hframe.pending
    · have hasked := hnext.fillAsked (State.fillAsked_of_none rfl)
      cases hnext.work with
      | completing code fields hcc hdone =>
        rw [State.complete_cc] at hcc
        exact .inl ⟨hdone, by rw [hcc], code, fields, by rw [hcc]⟩
      | waits g hcc hg =>
        exact .inr (.inl ⟨by rw [hcc], g, hg, (hasked g hg).1, (hasked g hg).2⟩)
      | walks p attempts choices hcc hdone =>
        exact .inr (.inr ⟨hdone, by rw [hcc], p, attempts, choices, by rw [hcc]⟩)

/-- Settles O21: the fault is offered and the requester goes on with it in place of the line. -/
theorem fillFaultInstallsNothing : Obligations.FillFaultInstallsNothing := by
  intro s f c k hfill hworking hc
  have hrun : exec c s = .next (s.tableFault k f) := by
    obtain ⟨rfl, rfl⟩ | ⟨rfl, rfl⟩ := hc
    · change execFillFault s = _
      rw [execFillFault, hfill]
    · change execFillNoReply s = _
      rw [execFillNoReply, hfill]
  refine ⟨_, hrun, f.requester.onFault_state hworking, f.requester.onFault_tau _,
    f.requester.onFault_afl _, ?_, ?_, fun u hu => ?_⟩
  · rw [State.tableFault, f.requester.onFault_afl]
    exact AttentionLogic.offer_capture ..
  · rw [State.tableFault, f.requester.onFault_afl]
    exact AttentionLogic.offer_getLsbD ..
  · have hafter : s.tableFault k f = f.requester.onFault u := by rw [hu]; rfl
    rw [hafter]
    refine ⟨fun q d0 d1 d2 ds hr hq => ?_, fun q a band hr => ?_, fun terms hr => ?_,
      fun i x hr hx hlive => ?_, fun w hr => ?_⟩
    all_goals rw [hr]
    · simp only [Requester.onFault, hq]
      rfl
    · rfl
    · rfl
    · have hux : u.context i = x := by rw [hx, hu]; rfl
      have hgroup : u.group x.group = s.group x.group := by rw [hu]; rfl
      rw [Requester.onFault, State.endCrankback_of_live hux (Context.live_iff.mpr hlive), hgroup, hu]
      rfl
    · rw [hu]
      rfl

/-- Settles O22: the operands decide the refusal, and the drop is the filter of the lines. -/
theorem invalidateDropsNamedLines : Obligations.InvalidateDropsNamedLines := by
  refine ⟨⟨rfl, rfl, rfl⟩, fun s c mask index present kept hcell hmask hpresent hindex hkept => ?_⟩
  rw [exec_invalidate_of_inHand hcell, invalidateRequest, ← hmask, ← hpresent, ← hindex]
  refine ⟨fun hbad => ?_, fun hgood => ?_⟩
  · rw [if_neg fun hgood => invalidateOperandsGood_iff.mp hgood hbad]
  · rw [if_pos (invalidateOperandsGood_iff.mpr hgood), hkept]
    rfl

end Sys2Proof.Machine
end

section
/-! The first step of a SEIZE and its stages: O29 and O60 (R50 to R58, R96 to R98). -/

namespace Sys2Proof.Machine

section Operands

variable {c : FetchedCell}

/-! ## The operands of a SEIZE (R50, R96) -/

theorem FetchedCell.addressForm_of_digits (h : c.operand 18 1 = 0) : c.addressForm =
    if c.operand 19 1 ≤ 16 ∧ ∀ j < c.operand 19 1, c.digitPlace j < 10 then
      some (.digits ((List.range (c.operand 19 1)).map c.digitPlace)) else none := by
  rw [FetchedCell.addressForm, h]
  simp [List.all_eq_true]

theorem FetchedCell.addressForm_of_override (h : c.operand 18 1 = 1) {d : Distance}
    (hd : c.operand 34 1 = d.val) (hn : c.operand 32 2 ≤ 2047) :
    c.addressForm = some (.override (c.operand 32 2) d) := by
  rw [FetchedCell.addressForm, h]
  simp only [below_eq_some.mpr hd]
  exact if_pos (by omega)

theorem FetchedCell.addressForm_of_bad_override (h : c.operand 18 1 = 1)
    (hbad : 2047 < c.operand 32 2 ∨ 7 < c.operand 34 1) : c.addressForm = none := by
  rw [FetchedCell.addressForm, h]
  simp only
  split
  case h_1 d hd =>
    have hlt : c.operand 34 1 < 8 := below_eq_some.mp hd ▸ d.isLt
    exact if_neg (by omega)
  case h_2 => rfl

theorem FetchedCell.addressForm_of_other (h : 1 < c.operand 18 1) : c.addressForm = none := by
  unfold FetchedCell.addressForm
  split
  case h_1 h0 => omega
  case h_2 h1 => omega
  case h_3 => rfl

theorem FetchedCell.addressForm_eq_none_iff : c.addressForm = none ↔
    1 < c.operand 18 1 ∨
    (c.operand 18 1 = 0 ∧ (16 < c.operand 19 1 ∨ ∃ j < c.operand 19 1, 9 < c.digitPlace j)) ∨
    (c.operand 18 1 = 1 ∧ (2047 < c.operand 32 2 ∨ 7 < c.operand 34 1)) := by
  obtain h | h | h : c.operand 18 1 = 0 ∨ c.operand 18 1 = 1 ∨ 1 < c.operand 18 1 := by omega
  · rw [FetchedCell.addressForm_of_digits h]
    split
    case isTrue hgood =>
      refine iff_of_false nofun ?_
      rintro (hform | ⟨-, hcount | ⟨j, hj, hdigit⟩⟩ | ⟨hform, -⟩)
      · omega
      · exact absurd hgood.1 (by omega)
      · exact absurd (hgood.2 j hj) (by omega)
      · omega
    case isFalse hbad =>
      refine iff_of_true rfl (.inr (.inl ⟨h, ?_⟩))
      by_contra hgood
      push Not at hgood
      exact hbad ⟨hgood.1, fun j hj => Nat.lt_succ_of_le (hgood.2 j hj)⟩
  · by_cases hbad : 2047 < c.operand 32 2 ∨ 7 < c.operand 34 1
    · exact iff_of_true (FetchedCell.addressForm_of_bad_override h hbad) (.inr (.inr ⟨h, hbad⟩))
    · rw [FetchedCell.addressForm_of_override h (d := ⟨c.operand 34 1, by omega⟩) rfl (by omega)]
      refine iff_of_false nofun ?_
      rintro (hform | ⟨hform, -⟩ | ⟨-, hoperand⟩)
      · omega
      · omega
      · exact hbad hoperand
  · exact iff_of_true (FetchedCell.addressForm_of_other h) (.inl h)

theorem FetchedCell.seizeRequest_eq_none_iff : c.seizeRequest = none ↔
    63 < c.operand 16 1 ∨ 7 < c.operand 17 1 ∨ c.addressForm = none := by
  unfold FetchedCell.seizeRequest
  split
  case h_1 incoming cls address hin hcls haddress =>
    refine iff_of_false nofun ?_
    rw [below_eq_some.mp hin, below_eq_some.mp hcls, haddress]
    rintro (h | h | h)
    · omega
    · omega
    · cases h
  case h_2 hnone =>
    refine iff_of_true rfl ?_
    by_contra hgood
    push Not at hgood
    obtain ⟨hin, hcls, haddress⟩ := hgood
    obtain ⟨address, haddress⟩ := Option.ne_none_iff_exists'.mp haddress
    exact hnone ⟨c.operand 16 1, by omega⟩ ⟨c.operand 17 1, by omega⟩ address
      (below_eq_some.mpr rfl) (below_eq_some.mpr rfl) haddress

theorem FetchedCell.seizeRequest_fields {q : SeizeRequest} (h : c.seizeRequest = some q) :
    q.incoming.val = c.operand 16 1 ∧ q.cls.val = c.operand 17 1 ∧ q.ceiling = c.operand 20 4 ∧
      c.addressForm = some q.address := by
  unfold FetchedCell.seizeRequest at h
  split at h
  case h_1 incoming cls address hin hcls haddress =>
    cases h
    exact ⟨(below_eq_some.mp hin).symm, (below_eq_some.mp hcls).symm, rfl, haddress⟩
  case h_2 => cases h

end Operands

section Stages

variable {s d : State} {c : FetchedCell} {q : SeizeRequest}

/-! ## The first step -/

theorem State.complete_of_zero (code : ResultCode) {fields : List Field}
    (h : ∀ f ∈ fields, f.value = 0) (s : State) : s.complete code fields = s.complete code [] :=
  State.complete_append_of_zero code [] h s

/-- A refusal before a band or an area key is found has an all-zero result area (R58). -/
theorem State.refuseSeize_of_none (code : ResultCode) (s : State) :
    s.refuseSeize code (Analysis.none none) none = s.complete code [] := by
  rw [State.refuseSeize, State.complete_of_zero]
  simp [Analysis.fields, Analysis.none, AnalysisSource.code, flags]

/-- The cell in hand without its operand bytes (R57). -/
theorem State.dropOperands_of_inHand (h : s.InHand .seize c) : s.dropOperands =
    { s with cc := { s.cc with cell := some { c with operands := [] } } } := by
  obtain ⟨-, -, hcell, -⟩ := h
  rw [State.dropOperands, hcell]
  rfl

theorem exec_seize_of_inHand (h : s.InHand .seize c) : exec .seize s = .next (seizeCell c
    { s with cc := { s.cc with cell := some { c with operands := [] } } }) := by
  rw [← State.dropOperands_of_inHand h]
  exact execSeize_of_inHand h

theorem State.creditExceeded_iff {n : CarrierId} : s.creditExceeded n = true ↔
    s.effCreditLimit n ≠ 0 ∧ s.effCreditLimit n ≤ (s.account n).receivable := by
  simp [State.creditExceeded]

/-- Stages 1 to 3 let the request pass (R97). -/
structure State.SeizePasses (q : SeizeRequest) (s : State) : Prop where
  free : s.ct.freeFifo ≠ []
  active : (s.agreement q.incoming).active = true
  credit : s.effCreditLimit q.incoming = 0 ∨
    (s.account q.incoming).receivable < s.effCreditLimit q.incoming

theorem seizeCell_of_none (h : c.seizeRequest = none) : seizeCell c s = s.complete .badOperand [] := by
  rw [seizeCell, h]

theorem seizeCell_of_some (h : c.seizeRequest = some q) : seizeCell c s =
    if s.ct.freeFifo.isEmpty then s.complete .noContext []
    else if !(s.agreement q.incoming).active then s.complete .carrierInactive []
    else if s.creditExceeded q.incoming then s.complete .creditExceeded []
    else seizeDestination q s := by
  rw [seizeCell, h]
  simp only [State.refuseSeize_of_none]

theorem seizeCell_of_no_context (h : c.seizeRequest = some q) (hempty : s.ct.freeFifo = []) :
    seizeCell c s = s.complete .noContext [] := by
  rw [seizeCell_of_some h, if_pos (List.isEmpty_iff.mpr hempty)]

theorem seizeCell_of_inactive (h : c.seizeRequest = some q) (hfree : s.ct.freeFifo ≠ [])
    (hinactive : (s.agreement q.incoming).active = false) :
    seizeCell c s = s.complete .carrierInactive [] := by
  rw [seizeCell_of_some h, if_neg (by simpa using hfree), if_pos (by simpa using hinactive)]

theorem seizeCell_of_exceeded (h : c.seizeRequest = some q) (hfree : s.ct.freeFifo ≠ [])
    (hactive : (s.agreement q.incoming).active = true) (hlimit : s.effCreditLimit q.incoming ≠ 0)
    (hreached : s.effCreditLimit q.incoming ≤ (s.account q.incoming).receivable) :
    seizeCell c s = s.complete .creditExceeded [] := by
  rw [seizeCell_of_some h, if_neg (by simpa using hfree), if_neg (by simpa using hactive),
    if_pos (State.creditExceeded_iff.mpr ⟨hlimit, hreached⟩)]

theorem State.SeizePasses.seizeCell (hpasses : s.SeizePasses q) (h : c.seizeRequest = some q) :
    seizeCell c s = seizeDestination q s := by
  have hcredit : ¬ s.creditExceeded q.incoming = true := by
    rw [State.creditExceeded_iff]
    rintro ⟨hne, hle⟩
    exact hpasses.credit.elim hne (by omega)
  rw [seizeCell_of_some h, if_neg (by simpa using hpasses.free), hpasses.active, if_neg (by simp),
    if_neg hcredit]

theorem State.SeizePasses.seizeCell_of_short (hpasses : s.SeizePasses q)
    (h : c.seizeRequest = some q) {ds : List Nat} (hds : q.address = .digits ds)
    (hshort : ds.length < 3) : Machine.seizeCell c s = s.complete .incompleteDigits [] := by
  rw [hpasses.seizeCell h, seizeDestination, hds]
  exact (if_pos hshort).trans (State.refuseSeize_of_none _ _)

/-! ## The area entry -/

theorem seizeDestination_of_held {d0 d1 d2 : Nat} {ds : List Nat} {line : List Byte}
    (hq : q.address = .digits (d0 :: d1 :: d2 :: ds))
    (hheld : s.lookup ⟨.area, d0 * 100 + d1 * 10 + d2⟩ = some line) : seizeDestination q s =
      seizeOnArea q.toSeizeCall (d0 * 100 + d1 * 10 + d2) (d0 :: d1 :: d2 :: ds) line s := by
  have hkey : areaKeyOf (d0 :: d1 :: d2 :: ds) = d0 * 100 + d1 * 10 + d2 := rfl
  simp only [seizeDestination, hq, hkey, hheld]
  exact if_neg (by simp)

theorem seizeDestination_of_missed {d0 d1 d2 : Nat} {ds : List Nat}
    (hq : q.address = .digits (d0 :: d1 :: d2 :: ds))
    (hmiss : s.lookup ⟨.area, d0 * 100 + d1 * 10 + d2⟩ = none) :
    seizeDestination q s = s.startFill ⟨.area, d0 * 100 + d1 * 10 + d2⟩ (.area q) := by
  have hkey : areaKeyOf (d0 :: d1 :: d2 :: ds) = d0 * 100 + d1 * 10 + d2 := rfl
  simp only [seizeDestination, hq, hkey, hmiss]
  exact if_neg (by simp)

/-- The tag of a carrier's line: its number, or 0 with the DEFAULT grid (R33, R38). -/
theorem State.tariffTag_eq (s : State) (n : CarrierId) (b : Band) (d : Distance) :
    s.tariffTag n b d = ⟨.tariff,
      (if s.effGrid n = .own then n.val else 0) * 32 + b.val * 8 + d.val⟩ := by
  unfold State.tariffTag State.fetchCarrier
  cases h : s.effGrid n <;> rfl

end Stages

/-- Settles O29: the operand checks one by one, then stages 1 to 3 and the count of digits. -/
theorem seizeRefusesEarly : Obligations.SeizeRefusesEarly := by
  intro s d c hcell hd
  subst hd
  have hrun := exec_seize_of_inHand hcell
  refine ⟨?_, fun hnone => ?_, fun q hq => ?_, fun q hq => ⟨fun hempty => ?_,
    fun hfree hinactive => ?_, fun hfree hactive hlimit hreached => ?_,
    fun hfree hactive hcredit ds hds hshort => ?_⟩⟩
  · rw [FetchedCell.seizeRequest_eq_none_iff, FetchedCell.addressForm_eq_none_iff]
    rfl
  · rw [hrun, seizeCell_of_none hnone]
  · obtain ⟨hin, hcls, hceiling, haddress⟩ := FetchedCell.seizeRequest_fields hq
    refine ⟨hin, hcls, hceiling, fun h => ?_, fun h => ?_⟩
    · rw [FetchedCell.addressForm_of_digits h] at haddress
      split at haddress
      case isTrue => exact (Option.some.inj haddress).symm
      case isFalse => cases haddress
    · have hgood : ¬ (2047 < c.operand 32 2 ∨ 7 < c.operand 34 1) := fun hbad => by
        rw [FetchedCell.addressForm_of_bad_override h hbad] at haddress
        cases haddress
      have hoverride := FetchedCell.addressForm_of_override h
        (d := ⟨c.operand 34 1, by omega⟩) rfl (by omega)
      exact ⟨_, rfl, Option.some.inj (haddress.symm.trans hoverride)⟩
  all_goals rw [hrun]; refine congrArg Host.Outcome.next ?_
  · exact seizeCell_of_no_context hq hempty
  · exact seizeCell_of_inactive hq hfree hinactive
  · exact seizeCell_of_exceeded hq hfree hactive hlimit hreached
  · exact State.SeizePasses.seizeCell_of_short ⟨hfree, hactive, hcredit⟩ hq hds hshort

/-- Settles O60: stage by stage, the line held, the fill asked for, or the refusal. -/
theorem seizeStagesFindPlaceAndPrice : Obligations.SeizeStagesFindPlaceAndPrice := by
  refine ⟨rfl, fun s => congrArg Fin.val s.tb.band_eq_getD, fun a => ?_, ?_, ?_, ?_, ?_, ?_, ?_, ?_⟩
  · rfl
  · intro s d c q hcell hd hq hfree hactive hcredit
    subst hd
    have hrun : exec .seize s = .next (seizeDestination q { s with
        cc := { s.cc with cell := some { c with operands := [] } } }) := by
      rw [exec_seize_of_inHand hcell]
      exact congrArg Host.Outcome.next
        (State.SeizePasses.seizeCell ⟨hfree, hactive, hcredit⟩ hq)
    refine ⟨fun n dist haddress => ?_, fun d0 d1 d2 key ds haddress hkey => ?_⟩
    · rw [hrun, seizeDestination, haddress]
    · subst hkey
      rw [hrun]
      exact ⟨fun line hheld => congrArg Host.Outcome.next (seizeDestination_of_held haddress hheld),
        fun hmiss => congrArg Host.Outcome.next (seizeDestination_of_missed haddress hmiss)⟩
  · intro q key dialled line s
    refine ⟨fun hinvalid => ?_, fun hvalid => ?_⟩
    · simp only [seizeOnArea, hinvalid]
      rfl
    · simp only [seizeOnArea, hvalid, if_true]
  · intro q a s tag htag
    have htariff : s.tariffTag q.incoming s.tb.band a.distance = tag :=
      (s.tariffTag_eq _ _ _).trans htag.symm
    refine ⟨fun hmiss => ?_, fun line hheld => ?_⟩
    · simp only [seizeTransit, htariff, hmiss]
      rw [htag]
      rfl
    · simp only [seizeTransit, htariff, hheld]
  · intro q a band line s
    refine ⟨fun hinvalid => ?_, fun hvalid => ?_⟩
    · simp only [seizeOnTransit, hinvalid]
      rfl
    · simp only [seizeOnTransit, hvalid, if_true]
  · intro terms s n hn
    refine ⟨fun habsent => ?_, fun hpresent hmiss => ?_, fun line hpresent hheld => ?_⟩
    · rw [seizeRoute, if_pos (hn ▸ habsent)]
      rfl
    · subst hn
      rw [seizeRoute, if_neg (by omega), hmiss]
      rfl
    · subst hn
      rw [seizeRoute, if_neg (by omega), hheld]
  · intro terms line s
    refine ⟨fun hempty => ?_, fun choices hchoices => ?_⟩
    · rw [seizeOnRoute, hempty]
      rfl
    · rw [seizeOnRoute, hchoices]
      rfl
  · intro s u f data line hfill hline hu
    have hrun : exec (.fillCompletion data) s = .next (f.requester.onLine line u) := by
      change execFillCompletion data s = _
      rw [execFillCompletion, hfill, hu, hline]
      rfl
    refine ⟨fun q d0 d1 d2 ds hr haddress => ?_, fun q a band hr => ?_, fun terms hr => ?_⟩
    · rw [hrun, hr, Requester.onLine, haddress]
      rfl
    · rw [hrun, hr, Requester.onLine]
    · rw [hrun, hr, Requester.onLine]

end Sys2Proof.Machine
end

section
/-! The walk over the choices of a route list: the checks of a choice in their order, admission, and
CRANKBACK: O30, O32 and O33 (R99 to R107, R109 to R115). -/

namespace Sys2Proof.Machine

section Walks

variable {s t u : State}

/-! ## The choices of a route list -/

theorem choicesOf_of_empty {line : List Byte} (h : min 6 (leNat line 0 1 % 8) = 0) :
    choicesOf line = none := if_pos h

theorem choicesOf_of_nonempty {line : List Byte} {count : Nat} (hcount : count = min 6 (leNat line 0 1 % 8))
    (h : count ≠ 0) : choicesOf line = some ((List.range' 1 count).map (choiceOf line)) := by
  subst hcount
  exact if_neg h

theorem choiceOf_getElem? {line : List Byte} {count n : Nat} (h : n < count) :
    ((List.range' 1 count).map (choiceOf line))[n]? = some
      { number := n + 1
        group := Fin.ofNat 512 (leNat line (8 + 8 * n) 2)
        alternate := (byteAt line (10 + 8 * n)).getLsbD 0
        classMask := byteAt line (11 + 8 * n) } := by
  have hflags : 10 + 8 * n = 8 + 8 * n + 2 := by omega
  have hmask : 11 + 8 * n = 8 + 8 * n + 3 := by omega
  rw [List.getElem?_map, List.getElem?_range' h, Nat.one_mul, Nat.add_comm, hflags, hmask]
  rfl

/-! ## The checks of a choice, one by one (R99) -/

section Checks

variable {p : WalkFor} {c : Choice} {line : TariffLine}

theorem secondPart_of_invalid (h : line.valid = false) :
    secondPart p c line s = .rejected .priceUnavailable s := by
  simp [secondPart, h]

theorem secondPart_of_over (h : line.valid = true) (hceiling : p.ceiling s ≠ 0)
    (hover : p.ceiling s < s.choiceQuote c.group line) :
    secondPart p c line s = .rejected .overCeiling s := by
  simp [secondPart, h, hceiling, hover]

/-- The choice is on a valid line with its quote within the ceiling (R101). -/
def State.Affordable (s : State) (p : WalkFor) (c : Choice) (line : TariffLine) : Prop :=
  line.valid = true ∧ (p.ceiling s = 0 ∨ s.choiceQuote c.group line ≤ p.ceiling s)

theorem State.Affordable.secondPart (h : s.Affordable p c line) : secondPart p c line s =
    if (s.group c.group).provisioned ≤ (s.group c.group).busy then
      .rejected .full (s.pressure c.group)
    else if !c.alternate then
      .passed (s.choiceQuote c.group line) (s.group c.group).control.tier s
    else if (s.group c.group).provisioned - (s.group c.group).busy
        ≤ (s.group c.group).control.reserve then .rejected .reserved s
    else if (s.group c.group).thin.2 then
      .passed (s.choiceQuote c.group line) (s.group c.group).control.tier
        (s.setGroup c.group (s.group c.group).thin.1)
    else .rejected .thinned (s.setGroup c.group (s.group c.group).thin.1) := by
  obtain ⟨hvalid, hceiling⟩ := h
  have hwithin : ¬ (p.ceiling s ≠ 0 ∧ p.ceiling s < s.choiceQuote c.group line) := by omega
  rw [Machine.secondPart, hvalid]
  exact if_neg hwithin

theorem State.Affordable.full (h : s.Affordable p c line)
    (hfull : (s.group c.group).provisioned ≤ (s.group c.group).busy) :
    Machine.secondPart p c line s = .rejected .full (s.pressure c.group) :=
  h.secondPart.trans (if_pos hfull)

theorem State.Affordable.direct (h : s.Affordable p c line)
    (hidle : (s.group c.group).busy < (s.group c.group).provisioned) (hdirect : c.alternate = false) :
    Machine.secondPart p c line s =
      .passed (s.choiceQuote c.group line) (s.group c.group).control.tier s := by
  rw [h.secondPart, if_neg (Nat.not_le.mpr hidle), hdirect]
  rfl

theorem State.Affordable.reserved (h : s.Affordable p c line)
    (hidle : (s.group c.group).busy < (s.group c.group).provisioned) (halternate : c.alternate = true)
    (hreserve : (s.group c.group).provisioned - (s.group c.group).busy
      ≤ (s.group c.group).control.reserve) :
    Machine.secondPart p c line s = .rejected .reserved s := by
  rw [h.secondPart, if_neg (Nat.not_le.mpr hidle), halternate]
  exact if_pos hreserve

theorem State.Affordable.alternate (h : s.Affordable p c line)
    (hidle : (s.group c.group).busy < (s.group c.group).provisioned) (halternate : c.alternate = true)
    (hreserve : (s.group c.group).control.reserve
      < (s.group c.group).provisioned - (s.group c.group).busy) :
    Machine.secondPart p c line s =
      if (s.group c.group).thin.2 then
        .passed (s.choiceQuote c.group line) (s.group c.group).control.tier
          (s.setGroup c.group (s.group c.group).thin.1)
      else .rejected .thinned (s.setGroup c.group (s.group c.group).thin.1) := by
  rw [h.secondPart, if_neg (Nat.not_le.mpr hidle), halternate]
  exact if_neg (Nat.not_le.mpr hreserve)

end Checks

theorem Group.thin_of_lt {r : Group} (h : r.thinning + r.control.altAdmit < 16) :
    r.thin = ({ r with thinning := r.thinning + r.control.altAdmit }, false) :=
  if_neg (Nat.not_le.mpr h)

theorem Group.thin_of_le {r : Group} (h : 16 ≤ r.thinning + r.control.altAdmit) :
    r.thin = ({ r with thinning := r.thinning + r.control.altAdmit - 16 }, true) := if_pos h

/-! ## A choice that passes (R99, R104) -/

/-- The group of an admitted choice after its last check and before it is claimed: an ALTERNATE choice
has taken its thinning step. -/
def Group.thinned (r : Group) (alternate : Bool) : Group :=
  { r with thinning :=
      if alternate = true then r.thinning + r.control.altAdmit - 16 else r.thinning }

theorem State.setGroup_self (s : State) (g : GroupId) : s.setGroup g (s.group g) = s := by
  have hgroups : s.groups.set g (s.group g) = s.groups := Vector.set_getElem_self _
  rw [State.setGroup, hgroups]

theorem State.setGroup_setGroup (s : State) (g : GroupId) (r q : Group) :
    (s.setGroup g r).setGroup g q = s.setGroup g q := by
  simp only [State.setGroup, Vector.set_set]

/-- The claim of an admitted choice leaves the record that admission is stated with. -/
theorem State.claim_thinned (s : State) (g : GroupId) (alternate : Bool) :
    (s.setGroup g ((s.group g).thinned alternate)).claim g =
      s.setGroup g ((s.group g).admitted alternate) := by
  rw [State.claim, State.setGroup_group, if_pos rfl]
  exact s.setGroup_setGroup g _ _

section Passing

variable {p : WalkFor} {c : Choice} {cls : CallClass} {ceiling quote : Nat} {line : TariffLine}

theorem State.ChoicePasses.firstPart (h : s.ChoicePasses c cls ceiling quote line)
    (hcls : p.cls s = cls) (hexcluded : p.excluded s ≠ some c.group) : firstPart p c s = none := by
  obtain ⟨hopen, hclass, hactive, -⟩ := h
  rw [Machine.firstPart, if_neg hexcluded, hcls, hopen, hclass, hactive]
  rfl

theorem State.ChoicePasses.secondPart (h : s.ChoicePasses c cls ceiling quote line)
    (hceiling : p.ceiling s = ceiling) :
    secondPart p c line s = .passed quote (s.group c.group).control.tier
      (s.setGroup c.group ((s.group c.group).thinned c.alternate)) := by
  obtain ⟨-, -, -, hvalid, hquote, hwithin, hidle, hadmitted⟩ := h
  have hquote : quote = s.choiceQuote c.group line := hquote
  subst hquote hceiling
  have haffordable : s.Affordable p c line := ⟨hvalid, hwithin⟩
  cases halternate : c.alternate with
  | false =>
    have hkept : (s.group c.group).thinned false = s.group c.group := rfl
    rw [haffordable.direct hidle halternate, hkept, State.setGroup_self]
  | true =>
    obtain ⟨hreserve, hsum⟩ := hadmitted halternate
    rw [haffordable.alternate hidle halternate hreserve, Group.thin_of_le hsum]
    rfl

end Passing

/-! ## The events of a walk -/

section Events

variable {w : Walk} {line : List Byte} {reason : Reason}

theorem Walk.evaluate_of_rejected (h : firstPart w.purpose w.current s = some reason) :
    w.evaluate s = w.reject reason s := by
  rw [Walk.evaluate, h]

theorem Walk.evaluate_of_missed (h : firstPart w.purpose w.current s = none)
    (hmiss : s.lookup (s.ownerTag w.purpose w.current) = none) :
    w.evaluate s = s.startFill (s.ownerTag w.purpose w.current) (.owner w) := by
  rw [Walk.evaluate, h]
  simp only [hmiss]

theorem Walk.evaluate_of_held (h : firstPart w.purpose w.current s = none)
    (hheld : s.lookup (s.ownerTag w.purpose w.current) = some line) :
    w.evaluate s = w.resume line s := by
  rw [Walk.evaluate, h]
  simp only [hheld]

/-- A rejected choice leaves the chain as it was but for the walk, which stands before the next. -/
theorem Walk.resume_of_rejected
    (h : secondPart w.purpose w.current (tariffLineOf line) s = .rejected reason t) :
    w.resume line s = { t with cc := { s.cc with
      work := .walking w.purpose (w.attempts ++ [⟨w.current.number, w.current.group, reason⟩])
        w.rest } } := by
  have hcc : t.cc = s.cc := by rw [((secondPart_considered .refl).1 _ _ h).frame]
  rw [Walk.resume, h, ← hcc]
  rfl

theorem State.ChoicePasses.resume {quote : Nat}
    (h : s.ChoicePasses w.current (w.purpose.cls s) (w.purpose.ceiling s) quote (tariffLineOf line)) :
    w.resume line s =
      (s.setGroup w.current.group ((s.group w.current.group).thinned w.current.alternate)).admitChoice
        w.purpose w.current (tariffLineOf line) quote (s.group w.current.group).control.tier
        w.attempts := by
  rw [Walk.resume, h.secondPart rfl]

/-- The end of a fill goes on with the line installed and the fill cleared (R40). -/
theorem execFillCompletion_of_fill {f : Fill} {data : List Byte} (hfill : s.tau.fill = some f)
    (hline : line = (List.range f.tag.kind.bytes).map (byteAt data)) :
    exec (.fillCompletion data) s = .next (f.requester.onLine line { s with tau :=
      ⟨(if 32 ≤ s.tau.lines.length then s.tau.lines.tail else s.tau.lines) ++ [⟨f.tag, line⟩],
        none⟩ }) := by
  change execFillCompletion data s = _
  rw [execFillCompletion, hfill, hline]
  rfl

/-- A choice that passes resumes with the owner's line, held or delivered by the fill that the walk
waited for (R100). -/
theorem exec_of_line {c : Instr} {p : WalkFor} {attempts : List Attempt} {ch : Choice}
    {more : List Choice} {quote : Nat}
    (h : (c = p.command ∧ s.WalkInHand p attempts (ch :: more) ∧
        s.lookup (s.tariffTag (s.group ch.group).owner (p.band s) (p.distance s)) = some line ∧
        u = s) ∨
      (∃ data f, c = .fillCompletion data ∧ s.tau.fill = some f ∧
        f.requester = .owner ⟨p, attempts, ch, more⟩ ∧
        line = (List.range f.tag.kind.bytes).map (byteAt data) ∧
        u = { s with tau :=
          ⟨(if 32 ≤ s.tau.lines.length then s.tau.lines.tail else s.tau.lines)
            ++ [⟨f.tag, line⟩], none⟩ }))
    (hexcluded : p.excluded s ≠ some ch.group)
    (hpasses : s.ChoicePasses ch (p.cls s) (p.ceiling s) quote (tariffLineOf line)) :
    u = { s with tau := u.tau } ∧
      exec c s = .next (Walk.resume ⟨p, attempts, ch, more⟩ line u) := by
  obtain ⟨rfl, hwalk, hheld, rfl⟩ | ⟨data, f, rfl, hfill, hr, hline, rfl⟩ := h
  · refine ⟨rfl, (exec_of_walkInHand hwalk).trans (congrArg Host.Outcome.next ?_)⟩
    exact Walk.evaluate_of_held (w := ⟨p, attempts, ch, more⟩)
      (hpasses.firstPart rfl hexcluded) hheld
  · refine ⟨rfl, (execFillCompletion_of_fill hfill hline).trans (congrArg Host.Outcome.next ?_)⟩
    rw [hr]
    rfl

end Events

end Walks

/-- Settles O33: each check by its branch, and what a failed or missed choice leaves. -/
theorem choicesAreCheckedInOrder : Obligations.ChoicesAreCheckedInOrder := by
  refine ⟨fun s terms i => ⟨rfl, rfl, rfl, rfl, rfl, rfl, rfl, rfl, rfl, rfl⟩,
    fun line count hcount => ⟨fun hzero => choicesOf_of_empty (hcount.symm.trans hzero),
      fun hsome => ⟨_, choicesOf_of_nonempty hcount hsome, by simp,
        fun n hn => ⟨_, choiceOf_getElem? hn, rfl, rfl, rfl, rfl⟩⟩, rfl⟩,
    fun s p attempts ch more owner tag hwalk howner htag => ?walk,
    fun s u t f data line w reason hfill hr hline hu hrejected => ?fill,
    fun s p ch line r quote hr hquote => ?checks⟩
  case walk =>
    have hrun := exec_of_walkInHand hwalk
    have htag' : s.ownerTag p ch = tag := by
      rw [htag, howner]
      exact s.tariffTag_eq _ _ _
    refine ⟨fun reason hrejected => ?_, fun hpart hmiss => ?_,
      fun line reason t hpart hheld hrejected => ?_⟩
    all_goals rw [hrun]
    · exact congrArg Host.Outcome.next
        (Walk.evaluate_of_rejected (w := ⟨p, attempts, ch, more⟩) hrejected)
    · rw [← htag'] at hmiss ⊢
      exact congrArg Host.Outcome.next
        (Walk.evaluate_of_missed (w := ⟨p, attempts, ch, more⟩) hpart hmiss)
    · rw [← htag'] at hheld
      exact congrArg Host.Outcome.next
        ((Walk.evaluate_of_held (w := ⟨p, attempts, ch, more⟩) hpart hheld).trans
          (Walk.resume_of_rejected hrejected))
  case fill =>
    rw [execFillCompletion_of_fill hfill hline, ← hu, hr, Requester.onLine,
      Walk.resume_of_rejected hrejected, hu]
  case checks =>
    subst hr
    have hquote : quote = s.choiceQuote ch.group line := hquote
    subst hquote
    refine ⟨?_, secondPart_of_invalid, secondPart_of_over, fun hvalid hceiling => ?_⟩
    · simp only [firstPart, Bool.not_eq_true']
    · have haffordable : s.Affordable p ch line := ⟨hvalid, hceiling⟩
      refine ⟨haffordable.full, haffordable.direct, fun hidle halternate =>
        ⟨haffordable.reserved hidle halternate, fun hreserve => ?_⟩⟩
      rw [haffordable.alternate hidle halternate hreserve]
      refine ⟨fun hsum => ?_, fun hsum => ?_⟩
      · rw [Group.thin_of_lt hsum]
        rfl
      · rw [Group.thin_of_le hsum]
        rfl

end Sys2Proof.Machine
end

section
/-! Admission of a seizure, and the move or the end of a crankback: O30 and O32 (R105 to R107, R109 to
R115). -/

namespace Sys2Proof.Machine

section Admission

variable {s : State}

/-! ## Admission (R105) -/

/-- A thinning step leaves the owner of the group, and with it what a choice freezes. -/
theorem Context.freezeOwner_thinned (c : Choice) (line : TariffLine) (quote : Nat) (tier : Tier)
    (x : Context) :
    Context.freezeOwner (s.setGroup c.group ((s.group c.group).thinned c.alternate)) c line quote tier
      x = Context.freezeOwner s c line quote tier x := by
  have howner : ((s.setGroup c.group ((s.group c.group).thinned c.alternate)).group c.group).owner
      = (s.group c.group).owner := by
    rw [State.setGroup_group, if_pos rfl]
    rfl
  simp only [Context.freezeOwner, howner]
  rfl

section Seizure

variable {terms : SeizeTerms} {c : Choice} {line : TariffLine} {quote : Nat} {tier : Tier}
  {attempts : List Attempt} {i : CtxId} {fifo : List CtxId} {x : Context}

theorem State.admitSeizure_of_head (hfifo : s.ct.freeFifo = i :: fifo)
    (hx : admittedContext s terms c line quote tier (s.context i).generation = x) :
    s.admitSeizure terms c line quote tier attempts = State.complete .routed
      (⟨64, 2, handleOf i x.generation⟩ :: x.routeFields ++ terms.analysis.fields
        ++ attemptFields attempts)
      (State.claim c.group { s with ct := { s.ct with
        freeFifo := fifo, contexts := s.ct.contexts.set i x } }) := by
  rw [State.admitSeizure, hfifo, ← hx]
  rfl

theorem admittedContext_thinned (generation : BitVec 4) :
    admittedContext (s.setGroup c.group ((s.group c.group).thinned c.alternate)) terms c line quote
      tier generation = admittedContext s terms c line quote tier generation := by
  rw [admittedContext, Context.freezeOwner_thinned]
  rfl

/-- The head of the free FIFO is taken for the call, and the group is claimed with the thinning step of
its choice. -/
theorem State.admitSeizure_of_thinned (hfifo : s.ct.freeFifo = i :: fifo)
    (hx : admittedContext s terms c line quote tier (s.context i).generation = x) :
    (s.setGroup c.group ((s.group c.group).thinned c.alternate)).admitSeizure terms c line quote tier
        attempts = State.complete .routed
      (⟨64, 2, handleOf i x.generation⟩ :: x.routeFields ++ terms.analysis.fields
        ++ attemptFields attempts)
      { s with
        groups := s.groups.set c.group ((s.group c.group).admitted c.alternate),
        ct := { s.ct with freeFifo := fifo, contexts := s.ct.contexts.set i x } } :=
  (State.admitSeizure_of_head
      (s := s.setGroup c.group ((s.group c.group).thinned c.alternate)) hfifo ((admittedContext_thinned _).trans hx)).trans
    (congrArg (State.complete .routed _) (State.claim_thinned { s with ct := { s.ct with
      freeFifo := fifo, contexts := s.ct.contexts.set i x } } c.group c.alternate))

end Seizure

/-! ## The move of a crankback (R113) -/

section Move

theorem State.setGroup_comm {g h : GroupId} (hne : g ≠ h) (q r : Group) :
    (s.setGroup g q).setGroup h r = (s.setGroup h r).setGroup g q := by
  have hgroups := Vector.set_comm q r (xs := s.groups) (hi := g.isLt) (hj := h.isLt)
    (Fin.val_ne_of_ne hne)
  exact congrArg (fun groups => { s with groups := groups }) hgroups

/-- The group that the call leaves and the one that it goes to are two records. -/
theorem State.unclaim_thinned_claim {g h : GroupId} (hne : h ≠ g) (alternate : Bool) :
    ((s.setGroup h ((s.group h).thinned alternate)).unclaim g).claim h =
      (s.unclaim g).setGroup h ((s.group h).admitted alternate) := by
  have hleft : (s.setGroup h ((s.group h).thinned alternate)).group g = s.group g := by
    rw [State.setGroup_group, if_neg hne]
  have htaken : (s.unclaim g).group h = s.group h := by
    rw [State.unclaim, State.setGroup_group, if_neg (Ne.symm hne)]
  have hswap : (s.setGroup h ((s.group h).thinned alternate)).unclaim g =
      (s.unclaim g).setGroup h (((s.unclaim g).group h).thinned alternate) := by
    rw [State.unclaim, hleft, State.setGroup_comm hne, htaken]
    rfl
  rw [hswap, State.claim_thinned, htaken]

variable {c : Choice} {line : TariffLine} {quote : Nat} {tier : Tier} {i : CtxId} {x y : Context}

/-- BUSY leaves the group of the call for the group of the choice, which takes its thinning step. -/
theorem State.moveContext_of_thinned (hx : s.context i = x) (hlive : x.live = true)
    (hother : c.group ≠ x.group)
    (hy : { Context.freezeOwner s c line quote tier x with crankbacks := x.crankbacks + 1 } = y) :
    (s.setGroup c.group ((s.group c.group).thinned c.alternate)).moveContext i c line quote tier =
      { s with
        groups := (s.groups.set x.group
          { s.group x.group with busy := (s.group x.group).busy - 1 }).set c.group
            ((s.group c.group).admitted c.alternate),
        ct := { s.ct with contexts := s.ct.contexts.set i y } } := by
  have hlive' : ((s.setGroup c.group ((s.group c.group).thinned c.alternate)).context i).live = true :=
    (congrArg Context.live hx).trans hlive
  have hcontext : (s.setGroup c.group ((s.group c.group).thinned c.alternate)).context i = x := hx
  rw [State.moveContext_of_live c line quote tier hlive', hcontext, Context.freezeOwner_thinned, hy]
  exact State.unclaim_thinned_claim (s := s.setContext i y) hother c.alternate

/-- The move of a call by a choice that has taken its thinning step, with its whole result. -/
theorem State.admitChoice_of_moved {attempts : List Attempt} (hx : s.context i = x)
    (hlive : x.live = true) (hother : c.group ≠ x.group)
    (hy : { Context.freezeOwner s c line quote tier x with crankbacks := x.crankbacks + 1 } = y) :
    (s.setGroup c.group ((s.group c.group).thinned c.alternate)).admitChoice (.crankback i) c line
        quote tier attempts = State.complete .routed
      (⟨64, 2, handleOf i y.generation⟩ :: y.routeFields
        ++ [⟨91, 1, y.crankbacks⟩, ⟨92, 2, x.group⟩]
        ++ attemptFields (attempts ++ [⟨c.number, c.group, .admitted⟩]))
      { s with
        groups := (s.groups.set x.group
          { s.group x.group with busy := (s.group x.group).busy - 1 }).set c.group
            ((s.group c.group).admitted c.alternate),
        ct := { s.ct with contexts := s.ct.contexts.set i y } } := by
  have hmoved := State.moveContext_of_thinned hx hlive hother hy
  have hnew : ((s.setGroup c.group ((s.group c.group).thinned c.alternate)).moveContext i c line quote
      tier).context i = y := by
    rw [hmoved]
    exact Vector.getElem_set_self _
  have hgroup : ((s.setGroup c.group ((s.group c.group).thinned c.alternate)).context i).group
      = x.group := congrArg Context.group hx
  simp only [State.admitChoice, State.liveHandle, hnew, hgroup]
  rw [hmoved]

end Move

/-! ## The first event of a CRANKBACK, and its end (R109 to R111, R114) -/

theorem crankbackCell_of_walk {c : FetchedCell} {i : CtxId} (hi : handleIndex (c.operand 16 2) = i)
    (hvalid : s.handleValid (c.operand 16 2) = true) (hseized : (s.context i).state = .seized)
    (hcount : (s.context i).crankbacks < 2) :
    crankbackCell c s = crankRoute i (s.pressure (s.context i).group) := by
  subst hi
  have hanswered : ¬ (s.context (handleIndex (c.operand 16 2))).state = .answered := by
    rw [hseized]
    exact nofun
  rw [crankbackCell, hvalid]
  exact (if_neg hanswered).trans (if_neg (Nat.not_le.mpr hcount))

section CrankRoute

variable {i : CtxId} {line : List Byte}

theorem crankRoute_of_absent (h : s.cc.anchor.routeCount ≤ (s.context i).routeList) :
    crankRoute i s = s.walkOn (.crankback i) [] [] := by
  rw [crankRoute, if_pos h, crankOnRoute, Option.getD_none, List.drop_nil]

theorem crankRoute_of_missed (h : (s.context i).routeList < s.cc.anchor.routeCount)
    (hmiss : s.lookup ⟨.route, (s.context i).routeList⟩ = none) :
    crankRoute i s = s.startFill ⟨.route, (s.context i).routeList⟩ (.crankRoute i) := by
  rw [crankRoute, if_neg (Nat.not_le.mpr h), hmiss]

theorem crankRoute_of_held (h : (s.context i).routeList < s.cc.anchor.routeCount)
    (hheld : s.lookup ⟨.route, (s.context i).routeList⟩ = some line) :
    crankRoute i s = crankOnRoute i (choicesOf line) s := by
  rw [crankRoute, if_neg (Nat.not_le.mpr h), hheld]

end CrankRoute

/-- A crankback that ends without a circuit frees its call (R114). -/
theorem State.endCrankback_of_call {i : CtxId} {x : Context} (hx : s.context i = x)
    (hlive : x.live = true) (code : ResultCode) (attempts : List Attempt) :
    s.endCrankback i code attempts = State.complete code
      ([⟨64, 2, handleOf i x.generation⟩, ⟨92, 2, x.group⟩] ++ attemptFields attempts)
      { s with
        groups := s.groups.set x.group { s.group x.group with busy := (s.group x.group).busy - 1 },
        ct := { s.ct with
          contexts := s.ct.contexts.set i x.freed, freeFifo := s.ct.freeFifo ++ [i] } } := by
  rw [State.endCrankback, State.freeContext_of_live hx hlive, State.liveHandle, hx]

end Admission

/-- Settles O30: the walk's end, and the admission of the first choice that passes. -/
theorem seizeAdmitsFirstPassingChoice : Obligations.SeizeAdmitsFirstPassingChoice := by
  refine ⟨rfl, fun attempts => rfl,
    fun s terms attempts hwalk => exec_of_walkInHand hwalk, ?_⟩
  intro s u c terms q a attempts ch more i fifo g quote line hq ha hg hfifo hline hpasses
  subst hq ha hg
  obtain ⟨hu, hrun⟩ := exec_of_line (p := .seize terms) hline (by exact nofun) hpasses
  rw [hrun]
  refine congrArg Host.Outcome.next ?_
  have hpasses' : u.ChoicePasses ch terms.call.cls terms.call.ceiling quote (tariffLineOf line) := by
    rw [hu]
    exact hpasses
  rw [State.ChoicePasses.resume (w := ⟨.seize terms, attempts, ch, more⟩) hpasses']
  have hfifo' : u.ct.freeFifo = i :: fifo := by
    rw [hu]
    exact hfifo
  refine (State.admitSeizure_of_thinned hfifo' rfl).trans ?_
  rw [hu]
  rfl

/-- Settles O32: the first event of a CRANKBACK, its route list, its end and its move. -/
theorem crankbackMovesOrFreesCall : Obligations.CrankbackMovesOrFreesCall := by
  refine ⟨fun s p c i x n hcell hi hx hseized hgen hcount hp hn => ?first,
    fun s f data line i hfill hr hline => ?list, fun s i x attempts hwalk hx hlive => ?ended,
    fun s u c i x attempts ch more h quote line hx hlive hother hh hline hpasses => ?moved⟩
  case first =>
    have hindex := handleIndex_eq hi
    have hvalid : s.handleValid (c.operand 16 2) = true :=
      (s.handleValid_iff hindex).mpr ⟨by rw [← hx, hseized]; exact nofun, hx ▸ hgen⟩
    have hct : p.ct = s.ct := by rw [hp, State.pressure_ct]
    have htau : p.tau = s.tau := by rw [hp, State.pressure_tau]
    have hcc : p.cc = s.cc := by rw [hp, State.pressure_cc]
    have hpx : p.context i = x := (State.context_congr hct i).trans hx.symm
    have hlookup : ∀ tag, p.lookup tag = s.lookup tag := fun tag => by
      rw [State.lookup, htau]
      rfl
    have hrun : exec .crankback s = .next (crankRoute i p) := by
      rw [exec_crankback_of_inHand hcell,
        crankbackCell_of_walk hindex hvalid (hx ▸ hseized) (hx ▸ hcount), ← hx, ← hp]
    rw [hrun, ← hcc, ← htau]
    subst hn
    rw [← hpx]
    refine ⟨fun habsent => congrArg Host.Outcome.next (crankRoute_of_absent habsent),
      fun hpresent hmiss => ?_, fun line hpresent hheld => ?_⟩
    · rw [← hlookup] at hmiss
      exact congrArg Host.Outcome.next (crankRoute_of_missed hpresent hmiss)
    · rw [← hlookup] at hheld
      exact congrArg Host.Outcome.next (crankRoute_of_held hpresent hheld)
  case list =>
    rw [execFillCompletion_of_fill hfill hline, hr]
    rfl
  case ended =>
    exact (exec_of_walkInHand hwalk).trans (congrArg Host.Outcome.next
      (State.endCrankback_of_call hx.symm (Context.live_iff.mpr hlive) .allBlocked attempts))
  case moved =>
    subst hh
    subst hx
    have hexcluded : WalkFor.excluded s (.crankback i) ≠ some ch.group :=
      fun hsame => hother (Option.some.inj hsame).symm
    obtain ⟨hu, hrun⟩ := exec_of_line (p := .crankback i) hline hexcluded hpasses
    rw [hrun]
    refine congrArg Host.Outcome.next ?_
    have hpasses' : u.ChoicePasses ch (u.context i).cls (u.context i).ceiling quote
        (tariffLineOf line) := by
      rw [hu]
      exact hpasses
    rw [State.ChoicePasses.resume (w := ⟨.crankback i, attempts, ch, more⟩) hpasses']
    have hx : u.context i = s.context i := by
      rw [hu]
      rfl
    refine (State.admitChoice_of_moved hx (Context.live_iff.mpr hlive) hother rfl).trans ?_
    rw [hu]
    rfl

end Sys2Proof.Machine
end

section
/-! The end of a call and of a period: ANSWER, the charged RELEASE and PERIOD_CLOSE: O34, O36 and O42
(R121, R122, R124, R152 to R154). -/

namespace Sys2Proof.Machine

section Calls

variable {s t : State} {c : FetchedCell} {i : CtxId}

theorem State.handleValid_of (hi : handleIndex (c.operand 16 2) = i)
    (hlive : (s.context i).state ≠ .free)
    (hgen : (s.context i).generation = BitVec.ofNat 4 (c.operand 16 2 / 4096)) :
    s.handleValid (c.operand 16 2) = true := (s.handleValid_iff hi).mpr ⟨hlive, hgen⟩

theorem CallState.not_free_of_answered {k : CallState} (h : k = .answered) : k ≠ .free := by
  rw [h]
  exact nofun

theorem CallState.not_free_of_seized {k : CallState} (h : k = .seized) : k ≠ .free := by
  rw [h]
  exact nofun

/-! ## ANSWER (R121) -/

theorem exec_answer_of_inHand (h : s.InHand .answer c) :
    exec .answer s = .next (answerRequest c s) := onRequest_of_inHand h answerRequest

theorem answerRequest_of_stale (hi : handleIndex (c.operand 16 2) = i)
    (hstale : (s.context i).state = .free ∨
      (s.context i).generation ≠ BitVec.ofNat 4 (c.operand 16 2 / 4096)) :
    answerRequest c s = s.complete .staleHandle (s.handleRefusal (c.operand 16 2)) := by
  have hinvalid : s.handleValid (c.operand 16 2) = false := Bool.eq_false_iff.mpr fun h =>
    hstale.elim ((s.handleValid_iff hi).mp h).1 fun hne => hne ((s.handleValid_iff hi).mp h).2
  simp [answerRequest, hinvalid]

theorem answerRequest_of_answered (hi : handleIndex (c.operand 16 2) = i)
    (hanswered : (s.context i).state = .answered)
    (hgen : (s.context i).generation = BitVec.ofNat 4 (c.operand 16 2 / 4096)) {a : Tick}
    (ha : (s.context i).answerTick = some a) :
    answerRequest c s = s.complete .wrongState
      (s.handleRefusal (c.operand 16 2) ++ [⟨68, 4, a.toNat⟩]) := by
  have hvalid := State.handleValid_of hi (CallState.not_free_of_answered hanswered) hgen
  subst hi
  simp [answerRequest, hvalid, hanswered, ha]

theorem answerRequest_of_seized (hi : handleIndex (c.operand 16 2) = i)
    (hseized : (s.context i).state = .seized)
    (hgen : (s.context i).generation = BitVec.ofNat 4 (c.operand 16 2 / 4096)) {tick : Tick}
    {clamped : Bool}
    (haged : agedTick (s.context i).seizeTick s.now (c.operand 18 1) = (tick, clamped)) :
    answerRequest c s = State.complete .ok
      [⟨64, 2, c.operand 16 2⟩, ⟨66, 1, clamped.toNat⟩, ⟨68, 4, tick.toNat⟩,
        ⟨72, 4, s.tb.timeOfWeek⟩, ⟨76, 4, (s.context i).seizeTick.toNat⟩]
      (s.setContext i { s.context i with
        state := .answered, answerTick := some tick, answerTime := some s.tb.timeOfWeek,
        overdue := false, overdueReported := false }) := by
  have hvalid := State.handleValid_of hi (CallState.not_free_of_seized hseized) hgen
  subst hi
  simp [answerRequest, hvalid, hseized, haged, flags]

/-! ## The next step of JW reads JW and the time of week (R162) -/

theorem State.journalAdvance_jw_congr (hjw : t.jw = s.jw) (htime : t.tb.timeOfWeek = s.tb.timeOfWeek) :
    t.journalAdvance.jw = s.journalAdvance.jw := by
  unfold State.journalAdvance
  simp only [hjw, htime]
  split
  case isFalse => exact hjw
  case isTrue =>
    split
    case h_1 => simp only [State.writeHeader, State.issueJournal, hjw]
    case h_2 => simp only [State.writeHeader, State.issueJournal, hjw]
    case h_3 =>
      split
      case h_1 => exact hjw
      case h_2 => simp only [State.writeRecord, State.issueJournal, State.slotAddress, hjw]
      case h_3 =>
        split
        case isTrue => rfl
        case isFalse =>
          split
          case h_1 => rfl
          case h_2 => rfl

/-! ## The charge event (R124) -/

section Charge

variable {r : PendingRelease} {x : Context}

theorem State.chargeEvent_eq (hx : s.context r.ctx = x) (hlive : x.live = true) :
    s.chargeEvent r = { s with
      jw := ((s.accumulate (x.charge r.ctx r)).placeHold (.charge (x.charge r.ctx r))).jw,
      ru := (s.accumulate (x.charge r.ctx r)).ru,
      groups := s.groups.set x.group { s.group x.group with busy := (s.group x.group).busy - 1 },
      ct := { s.ct with
        contexts := s.ct.contexts.set r.ctx x.freed, freeFifo := s.ct.freeFifo ++ [r.ctx] } } := by
  have hplaced : ((s.accumulate (x.charge r.ctx r)).placeHold (.charge (x.charge r.ctx r))).context
      r.ctx = x := (State.context_congr (by simp) _).trans hx
  have hgroups : ((s.accumulate (x.charge r.ctx r)).placeHold (.charge (x.charge r.ctx r))).groups
      = s.groups := by simp
  have hgroup := State.group_congr hgroups x.group
  rw [State.chargeEvent, hx, State.freeContext_of_live hplaced hlive, hgroup, hgroups]
  exact State.eq_of_blocks (by simp) (by simp) (by simp) rfl (by simp) (by simp) (by simp) (by simp)
    rfl (by simp) (by simp) (by simp)

theorem flags_three (a b d : Bool) : flags [a, b, d] = a.toNat + 2 * b.toNat + 4 * d.toNat := by
  simp only [flags]
  omega

theorem State.chargeRelease_charged (hx : s.context r.ctx = x) (hlive : x.live = true) :
    s.ReleaseCharged r x (x.charge r.ctx r) (s.chargeRelease r) := by
  have hjw : (s.chargeRelease r).jw =
      ((s.accumulate (x.charge r.ctx r)).placeHold (.charge (x.charge r.ctx r))).jw := by
    rw [State.chargeRelease, State.complete_jw, State.chargeEvent_eq hx hlive]
  have hbusy : s.jw.state ≠ .running ∨ s.jw.flight ≠ none → (s.chargeRelease r).jw =
      { s.jw with hold := s.jw.hold ++ [.charge (x.charge r.ctx r)] } := fun h => by
    rw [hjw, State.placeHold_of_busy _ (by rwa [State.accumulate_jw]), State.accumulate_jw]
  have hevent := State.chargeEvent_eq hx hlive
  refine ⟨?_, ?_, ?_, ?_, hbusy, ?_⟩
  · rw [State.chargeRelease, hevent]
    refine State.eq_of_blocks rfl ?_ ?_ ?_ ?_ ?_ ?_ ?_ rfl ?_ ?_ ?_
    · exact Timebase.eq_of_fields (by simp) (by simp) (by simp) rfl
    all_goals simp
    rfl
  · rw [hjw, State.placeHold, State.journalAdvance_hold]
    rfl
  · rw [hjw, State.placeHold_snapshot]
    rfl
  · rw [hjw]
    exact State.journalAdvance_jw_congr rfl rfl
  · rw [State.chargeRelease, State.complete_cc, hevent, hx, flags_three]
    rfl

end Charge

/-! ## RELEASE of an ANSWERED call, and the stalled release (R122, R124) -/

theorem releaseRequest_of_answered {cause : ReleaseCause} {tick answered : Tick} {clamped : Bool}
    (hcause : releaseCause (c.operand 18 1) = some cause) (hi : handleIndex (c.operand 16 2) = i)
    (hvalid : s.handleValid (c.operand 16 2) = true) (hanswered : (s.context i).state = .answered)
    (htick : (s.context i).answerTick = some answered)
    (haged : agedTick answered s.now (c.operand 19 1) = (tick, clamped)) :
    releaseRequest c s =
      if s.holdFree then s.chargeRelease ⟨i, cause, tick, clamped⟩
      else State.enterChain .stalled
        { s with cc := { s.cc with work := .stalledRelease ⟨i, cause, tick, clamped⟩ } } := by
  subst hi
  simp [releaseRequest, hcause, hvalid, hanswered, htick, haged]

theorem State.holdFree_iff : s.holdFree = true ↔ s.jw.hold.length < 32 := decide_eq_true_iff

theorem State.enterStalled (w : Work) :
    State.enterChain .stalled { s with cc := { s.cc with work := w } } =
      State.settlePoll { s with cc := { s.cc with state := .stalled, work := w } } := rfl

theorem exec_stalledCellResume_of_release {r : PendingRelease} (hstate : s.cc.state = .stalled)
    (hwork : s.cc.work = .stalledRelease r) :
    exec .stalledCellResume s = .next (if s.holdFree then s.chargeRelease r else s) := by
  change execStalledCellResume s = _
  rw [execStalledCellResume, if_pos hstate, hwork]

theorem exec_stalledCellResume_of_close (hstate : s.cc.state = .stalled)
    (hwork : s.cc.work = .stalledClose) :
    exec .stalledCellResume s = .next (if s.closeReady then s.closePeriod else s) := by
  change execStalledCellResume s = _
  rw [execStalledCellResume, if_pos hstate, hwork]

/-! ## PERIOD_CLOSE (R152 to R154) -/

theorem exec_periodClose_of_inHand (h : s.InHand .periodClose c) :
    exec .periodClose s = .next (periodCloseRequest c s) := onRequest_of_inHand h periodCloseRequest

theorem State.closeReady_iff :
    s.closeReady = true ↔ s.jw.snapshot = none ∧ s.jw.hold.length < 32 := by
  rw [State.closeReady, Bool.and_eq_true, Option.isNone_iff_eq_none, State.holdFree_iff]

/-- The close handling of the Agreement Table, row by row (R140). -/
theorem AgreementTable.close_agreements (x : AgreementTable) (n : CarrierId) :
    x.close.agreements[n] = { x.agreements[n] with
      fixed := if x.freezeInForce = true then x.agreements[n].fixed
        else if x.freezePending = true then BitVec.allOnes 6 else 0 } := by
  cases hforce : x.freezeInForce with
  | true => simp [AgreementTable.close, hforce]
  | false =>
    cases hpending : x.freezePending with
    | true =>
      simp only [AgreementTable.close, hforce, hpending]
      exact AgreementTable.setFixed_getElem _ x n
    | false =>
      simp only [AgreementTable.close, hforce, hpending]
      exact AgreementTable.setFixed_getElem _ x n

theorem AgreementTable.close_eq (x : AgreementTable) : x.close = { x with
    agreements := x.close.agreements, freezePending := false,
    freezeInForce := x.freezeInForce || x.freezePending } := by
  cases hforce : x.freezeInForce <;> cases hpending : x.freezePending <;>
    simp [AgreementTable.close, AgreementTable.setFixed, hforce, hpending]

/-- The state that the close event places its PERIOD_END entry on (R153). -/
def State.closed (s : State) : State :=
  { s with
    jw := { s.jw with snapshot := some ⟨s.ru.period, s.ru.accounts⟩ },
    ru := ⟨Vector.replicate 64 Account.zero, s.ru.period + 1⟩,
    agr := s.agr.close }

theorem State.closeEvent_closed (s : State) :
    s.closeEvent = s.closed.placeHold (.periodEnd s.ru.period) := rfl

theorem State.summarised_count (s : State) : summarisedCount s.ru.accounts =
    (List.finRange 64).countP (fun n =>
      decide (¬ ((s.account n).payable = 0 ∧ (s.account n).receivable = 0 ∧
        (s.account n).outSeconds = 0 ∧ (s.account n).inSeconds = 0 ∧
        (s.account n).outCalls = 0 ∧ (s.account n).inCalls = 0 ∧ (s.account n).sat = false))) := by
  rw [summarisedCount_eq]
  refine List.countP_congr fun n _ => ?_
  rw [decide_eq_true_iff]
  exact Account.summarised_iff _

theorem State.closePeriod_cc (s : State) : s.closePeriod.cc = { s.cc with
    state := .working, work := .completing,
    flight := some ⟨.resultWrite .ok, ⟨s.cc.held, 64, .write (layout 64 64
      [⟨64, 4, s.ru.period.toNat⟩, ⟨68, 4, (s.ru.period + 1).toNat⟩,
        ⟨72, 1, summarisedCount s.ru.accounts⟩,
        ⟨73, 1, 4 * (s.agr.freezeInForce || s.agr.freezePending).toNat⟩])⟩⟩ } := by
  have hflags : flags [false, s.closeEvent.agr.freezePending, s.closeEvent.agr.freezeInForce]
      = 4 * (s.agr.freezeInForce || s.agr.freezePending).toNat := by
    rw [State.closeEvent_agr, AgreementTable.close_eq, flags_three]
    simp
  have hperiod : s.closeEvent.ru.period = s.ru.period + 1 := by
    rw [State.closeEvent_closed, State.placeHold_ru]
    rfl
  simp only [State.closePeriod]
  rw [State.complete_cc, hflags, hperiod, State.closeEvent_closed, State.placeHold_cc]
  rfl

end Calls

/-- Settles O34: the handle decides the first refusal and the state the second; a SEIZED call takes the
aged tick. -/
theorem answerMarksTheCall : Obligations.AnswerMarksTheCall := by
  intro s c i x handle hcell hhandle hi hx
  subst hhandle hx
  have hindex := handleIndex_eq hi
  rw [exec_answer_of_inHand hcell]
  refine ⟨fun hstale => ?_, fun a hanswered hgen ha => ?_,
    fun hseized hgen clamped tick hclamped htick => ?_⟩
  · rw [answerRequest_of_stale hindex hstale, State.handleRefusal_eq hindex]
  · rw [answerRequest_of_answered hindex hanswered hgen ha, State.handleRefusal_eq hindex, hanswered]
    rfl
  · rw [answerRequest_of_seized hindex hseized hgen (agedTick_eq hclamped htick)]
    rfl

/-- Settles O36: the charge event is taken with a free entry, at once or from STALLED. -/
theorem releaseOfAnsweredCallIsCharged : Obligations.ReleaseOfAnsweredCallIsCharged := by
  refine ⟨⟨rfl, fun n hn => releaseCause_eq_none_iff.mpr hn, rfl⟩, ?_, ?_⟩
  · rintro s c i x answered ⟨ctx, cause, tick, clamped⟩ hcell hi hx hanswered hgen hanswer hctx
      hcause hclamped htick
    subst hctx hx
    have hindex := handleIndex_eq hi
    have hlive := CallState.not_free_of_answered hanswered
    have hrun := releaseRequest_of_answered hcause hindex (State.handleValid_of hindex hlive hgen)
      hanswered hanswer (agedTick_eq hclamped htick)
    rw [exec_release_of_inHand hcell, hrun]
    refine ⟨fun hfree => ?_, fun hfull => ?_⟩
    · rw [if_pos (State.holdFree_iff.mpr hfree)]
      exact ⟨_, rfl, State.chargeRelease_charged rfl (Context.live_iff.mpr hlive)⟩
    · rw [if_neg fun hfree => Nat.not_lt.mpr hfull (State.holdFree_iff.mp hfree), State.enterStalled]
  · intro s r x hstate hwork hx hanswered
    have hlive := Context.live_iff.mpr (CallState.not_free_of_answered hanswered)
    rw [exec_stalledCellResume_of_release hstate hwork]
    refine ⟨fun hfree => ?_, fun hfull => ?_⟩
    · rw [if_pos (State.holdFree_iff.mpr hfree)]
      exact ⟨_, rfl, State.chargeRelease_charged hx.symm hlive⟩
    · rw [if_neg fun hfree => Nat.not_lt.mpr hfull (State.holdFree_iff.mp hfree)]

/-- Settles O42: the close event is taken with the snapshot free and a free entry, at once or from
STALLED. -/
theorem periodCloseTakesCloseEvent : Obligations.PeriodCloseTakesCloseEvent := by
  refine ⟨rfl, fun s c hcell hblocked => ?_, fun s i hi hsnapshot hfree => ?_⟩
  · have hready : ¬ s.closeReady = true := fun h => by
      obtain ⟨hnone, hroom⟩ := State.closeReady_iff.mp h
      rw [hnone] at hblocked
      exact hblocked.elim nofun (Nat.not_le.mpr hroom)
    rw [exec_periodClose_of_inHand hcell, periodCloseRequest, if_neg hready, State.enterStalled]
  · have hready := State.closeReady_iff.mpr ⟨hsnapshot, hfree⟩
    have hrun : exec i s = .next s.closePeriod := by
      obtain ⟨rfl, c, hcell⟩ | ⟨rfl, hstate, hwork⟩ := hi
      · rw [exec_periodClose_of_inHand hcell, periodCloseRequest, if_pos hready]
      · rw [exec_stalledCellResume_of_close hstate hwork, if_pos hready]
    have hagr : s.closePeriod.agr = s.agr.close := by
      rw [State.closePeriod, State.complete_agr, State.closeEvent_agr]
    have hjw : s.closePeriod.jw = (s.closed.placeHold (.periodEnd s.ru.period)).jw := by
      rw [State.closePeriod, State.complete_jw, State.closeEvent_closed]
    refine ⟨_, hrun, ?_, fun n => ?_, ?_, ?_, ?_, fun hbusy => ?_, ?_⟩
    · refine State.eq_of_blocks rfl ?_ ?_ ?_ ?_ ?_ ?_ ?_ rfl ?_ ?_ ?_
      · exact Timebase.eq_of_fields (by simp [State.closePeriod, State.closeEvent])
          (by simp [State.closePeriod, State.closeEvent])
          (by simp [State.closePeriod, State.closeEvent]) rfl
      case refine_6 =>
        rw [hagr]
        exact AgreementTable.close_eq _
      all_goals simp [State.closePeriod, State.closeEvent]
    · exact (congrArg (fun x : AgreementTable => x.agreements[n]) hagr).trans
        (AgreementTable.close_agreements _ n)
    · rw [hjw, State.placeHold_snapshot]
      rfl
    · rw [hjw, State.placeHold, State.journalAdvance_hold]
      rfl
    · rw [hjw]
      exact State.journalAdvance_jw_congr rfl rfl
    · rw [hjw, State.placeHold_of_busy (s := s.closed) _ hbusy]
      rfl
    · rw [State.closePeriod_cc, State.summarised_count]

end Sys2Proof.Machine
end

section
/-! REPORT_CHANGES and the queries: O37 and O39 (R72, R127, R129, R133, R141). -/

namespace Sys2Proof.Machine

section Changes

variable {s : State} {c : FetchedCell}

/-! ## REPORT_CHANGES (R127) -/

/-- The scan order: groups ascending, then contexts ascending. -/
def Change.Before : Change → Change → Prop
  | .group g, .group h => g < h
  | .group _, .context _ => True
  | .context _, .group _ => False
  | .context i, .context j => i < j

theorem State.changes_pairwise (s : State) : s.changes.Pairwise Change.Before := by
  have hgroups := (List.sortedLT_finRange 512).pairwise.filter (fun g => (s.group g).change != .none)
  have hcontexts := (List.sortedLT_finRange 4096).pairwise.filter (fun i => (s.context i).overdue)
  refine List.pairwise_append.mpr ⟨hgroups.map _ fun _ _ h => h, hcontexts.map _ fun _ _ h => h, ?_⟩
  intro a ha b hb
  obtain ⟨g, -, rfl⟩ := List.mem_map.mp ha
  obtain ⟨i, -, rfl⟩ := List.mem_map.mp hb
  trivial

theorem exec_reportChanges_of_inHand (h : s.InHand .reportChanges c) :
    exec .reportChanges s = .next (reportChangesRequest c s) := onRequest_of_inHand h reportChangesRequest

theorem flags_decide (n m : Nat) : flags [decide (n < m)] = if n < m then 1 else 0 := by
  by_cases h : n < m <;> simp [flags, h]

section Report

variable {taken : List Change}

theorem reportChangesRequest_eq (htaken : taken = s.changes.take 12) :
    reportChangesRequest c s = (taken.foldl State.clearChange s).complete .ok
      ([⟨64, 1, taken.length⟩, ⟨65, 1, if 12 < s.changes.length then 1 else 0⟩]
        ++ (taken.zipIdx.map (fun e => s.changeFields e.2 e.1)).flatten) := by
  rw [htaken, ← flags_decide]
  rfl

/-- The result of a REPORT_CHANGES, with its entries in any form that says the same fields. -/
theorem reportChangesRequest_cc (htaken : taken = s.changes.take 12)
    {entries : Change × Nat → List Field} (hentries : ∀ e, s.changeFields e.2 e.1 = entries e) :
    (reportChangesRequest c s).cc = { s.cc with
      state := .working, work := .completing,
      flight := some ⟨.resultWrite .ok, ⟨s.cc.held, 64, .write (layout 64 64
        ([⟨64, 1, taken.length⟩, ⟨65, 1, if 12 < s.changes.length then 1 else 0⟩]
          ++ (taken.zipIdx.map entries).flatten))⟩⟩ } := by
  have hsame : (fun e : Change × Nat => s.changeFields e.2 e.1) = entries := funext hentries
  rw [reportChangesRequest_eq htaken, State.complete_cc, hsame, State.clearChanges_eq]

end Report

end Changes

/-- Settles O37: the scan is in order, and the fold over the flags taken clears exactly those. -/
theorem reportChangesCollectsTwelve : Obligations.ReportChangesCollectsTwelve := by
  intro s c taken hcell htaken
  refine ⟨s.group_mem_changes, s.context_mem_changes, ?_, _, exec_reportChanges_of_inHand hcell, ?_,
    fun g => ?_, fun i => ?_, reportChangesRequest_cc htaken ?_⟩
  · refine s.changes_pairwise.imp fun {a b} h => ?_
    cases a <;> cases b <;> exact h
  · rw [reportChangesRequest_eq htaken, State.clearChanges_eq]
    refine State.eq_of_blocks rfl (Timebase.eq_of_fields ?_ ?_ ?_ rfl) ?_ rfl ?_ ?_ ?_ ?_ ?_ ?_ ?_ ?_
    all_goals simp
  · rw [reportChangesRequest_eq htaken, State.group_congr (State.complete_groups ..)]
    exact State.clearChanges_group taken s g
  · rw [reportChangesRequest_eq htaken, State.context_congr (State.complete_ct ..)]
    exact State.clearChanges_context taken s i
  · rintro ⟨k, n⟩
    cases k <;> rfl

section Query

variable {s : State} {c : FetchedCell}

/-! ## QUERY_GROUP (R72, R73) -/

theorem Group.fi_eq (r : Group) : r.fi = if r.history = [] then none
    else some ((r.history.drop (r.history.length - min r.history.length r.depth.value)).sum
      / min r.history.length r.depth.value) := by
  by_cases hempty : r.history = []
  · rw [if_pos hempty, Group.fi, hempty]
    rfl
  · rw [if_neg hempty, Group.fi, filteredInterval_of_ne_nil hempty]

theorem flags_five (a b d e f : Bool) :
    flags [a, b, d, e, f] = a.toNat + 2 * b.toNat + 4 * d.toNat + 8 * e.toNat + 16 * f.toNat := by
  simp only [flags]
  omega

theorem flags_four_of_false (a b d : Bool) :
    flags [false, a, b, d] = 2 * a.toNat + 4 * b.toNat + 8 * d.toNat := by
  simp only [flags, Bool.toNat_false]
  omega

/-- A bit of a flags byte whose condition is a proposition. -/
theorem Bool.mul_toNat_of_iff {b : Bool} {p : Prop} [Decidable p] (h : b = true ↔ p) (n : Nat) :
    n * b.toNat = if p then n else 0 := by
  cases b with
  | false => exact (if_neg fun hp => Bool.false_ne_true (h.mpr hp)).symm
  | true => exact (Nat.mul_one n).trans (if_pos (h.mp rfl)).symm

theorem Group.atRest_iff {r : Group} : r.atRest = true ↔ r.level = 0 ∧ r.quiet = none := by
  rw [Group.atRest, Bool.and_eq_true, decide_eq_true_iff, Option.isNone_iff_eq_none]

theorem Group.flags_eq (r : Group) (clamped : Bool) :
    flags [r.isOpen, r.mode == .held, r.atRest, r.fi.isSome, clamped] =
      r.isOpen.toNat + (if r.mode = .held then 2 else 0)
        + (if r.level = 0 ∧ r.quiet = none then 4 else 0)
        + (if r.history = [] then 0 else 8) + 16 * clamped.toNat := by
  have hfi : 8 * r.fi.isSome.toNat = if r.history = [] then 0 else 8 := by
    rw [r.fi_eq]
    by_cases hempty : r.history = []
    · rw [if_pos hempty, if_pos hempty]
      rfl
    · rw [if_neg hempty, if_neg hempty]
      rfl
  rw [flags_five, Bool.mul_toNat_of_iff beq_iff_eq, Bool.mul_toNat_of_iff Group.atRest_iff, hfi]

theorem exec_queryGroup_of_inHand (h : s.InHand .queryGroup c) :
    exec .queryGroup s = .next (queryGroupRequest c s) := onRequest_of_inHand h queryGroupRequest

/-! ## QUERY_CONTEXT and QUERY_CARRIER (R129, R133, R141) -/

theorem State.fetchCarrier_eq (s : State) (n : CarrierId) :
    s.fetchCarrier n = if s.effGrid n = .own then n else 0 := by
  unfold State.fetchCarrier
  cases s.effGrid n <;> rfl

theorem exec_queryContext_of_inHand (h : s.InHand .queryContext c) :
    exec .queryContext s = .next (queryContextRequest c s) :=
  onRequest_of_inHand h queryContextRequest

theorem exec_queryCarrier_of_inHand (h : s.InHand .queryCarrier c) :
    exec .queryCarrier s = .next (queryCarrierRequest c s) :=
  onRequest_of_inHand h queryCarrierRequest

theorem Context.age_eq (x : Context) (now : Tick) : (if x.live then elapsed x.seizeTick now else 0) =
    if x.state = .free then 0 else (now - x.seizeTick).toNat := by
  cases h : x.state <;> simp [Context.live, h, elapsed]

end Query

/-- Settles O39: each query's index is refused out of range, and its record is given field by field. -/
theorem queriesChangeNothing : Obligations.QueriesChangeNothing := by
  refine ⟨⟨rfl, rfl, rfl, rfl, rfl⟩, fun g r now clamped k m fi hk hm hfi => ?group,
    fun s n source hsource => ?effective, fun s c hcell => ?_, fun s c hcell => ?_,
    fun s c hcell => ?_⟩
  case group =>
    have hdepth : k = r.depth.value := hk
    have hfi' : r.fi = fi := by rw [r.fi_eq, hfi, hm, hdepth]
    rw [Group.resultFields, r.flags_eq, hfi', hdepth]
    cases r.quiet <;> cases r.holdOffEnd <;> rfl
  case effective =>
    have hgrid : s.effGrid n = (source 5).grid := congrArg Agreement.grid (hsource 5).symm
    refine ⟨congrArg Agreement.minSeconds (hsource 1).symm,
      congrArg Agreement.increment (hsource 2).symm, congrArg Agreement.premium (hsource 3).symm,
      congrArg Agreement.creditLimit (hsource 4).symm, hgrid, ?_, fun b d => ?_⟩
    · rw [← hgrid]
      exact s.fetchCarrier_eq n
    · rw [← hgrid]
      exact s.tariffTag_eq n b d
  · rw [exec_queryGroup_of_inHand hcell, queryGroupRequest]
    refine ⟨fun hbad => ?_, fun g hg => ?_⟩
    · rw [below_eq_none.mpr hbad]
    · rw [below_eq_some.mpr hg]
  · rw [exec_queryContext_of_inHand hcell, queryContextRequest]
    refine ⟨fun hbad => ?_, fun i x hi hx => ?_⟩
    · rw [below_eq_none.mpr hbad]
    · rw [below_eq_some.mpr hi, hx]
      simp only [flags_three, Context.age_eq]
      rfl
  · rw [exec_queryCarrier_of_inHand hcell, queryCarrierRequest]
    refine ⟨fun hbad => ?_, fun n a x hn ha hx => ?_⟩
    · rw [below_eq_none.mpr hbad]
    · rw [below_eq_some.mpr hn, ha, hx]
      simp only [flags_four_of_false]
      rfl

end Sys2Proof.Machine
end

section
/-! AGREE_SET: its operands, its refusals in order, and the terms it writes: O40 (R135 to R138). -/

namespace Sys2Proof.Machine

section AgreeSet

variable {s : State} {c : FetchedCell} {q : AgreeRequest}

/-! ## The operands (R135) -/

section Checked

variable {α β : Type} {isNamed : Bool} {value : Option α} {item : Option α}

theorem checkedWhen_eq_none_iff : checkedWhen isNamed value = none ↔ isNamed = true ∧ value = none := by
  cases isNamed <;> cases value <;> simp [checkedWhen]

/-- A checked term seen through the number it encodes, with the value the term has without it. -/
theorem checkedWhen_getD {f : α → β} {code : β} (hcode : ∀ a, value = some a → f a = code)
    (h : checkedWhen isNamed value = some item) (old : α) :
    f (item.getD old) = if isNamed = true then code else f old := by
  cases isNamed with
  | false =>
    cases h
    rfl
  | true =>
    cases value with
    | none => cases h
    | some a =>
      cases h
      exact hcode a rfl

end Checked

theorem gridOf_eq_none_iff {code : Nat} : gridOf code = none ↔ 1 < code := by
  match code with
  | 0 | 1 | n + 2 => simp [gridOf]

theorem gridOf_eq_some {code : Nat} {g : Grid} (h : gridOf code = some g) : g.code = code := by
  unfold gridOf at h
  split at h <;> cases h <;> rfl

/-- No term stands in both override masks. -/
theorem and_eq_zero_iff_testBit {m n : Nat} :
    m &&& n = 0 ↔ ¬ ∃ b, m.testBit b = true ∧ n.testBit b = true := by
  refine ⟨fun h ⟨b, hm, hn⟩ => ?_, fun h => Nat.eq_of_testBit_eq fun b => ?_⟩
  · have hbit := congrArg (fun x : Nat => x.testBit b) h
    simp [Nat.testBit_and, hm, hn] at hbit
  · rw [Nat.testBit_and, Nat.zero_testBit, Bool.eq_false_iff]
    intro hboth
    exact h ⟨b, (Bool.and_eq_true _ _).mp hboth⟩

theorem agreeMasksGood_iff {field ovSet ovClear fix : Nat} :
    agreeMasksGood field ovSet ovClear fix = true ↔ field < 64 ∧ fix < 64 ∧
      ovSet < 64 ∧ ovSet.testBit 0 = false ∧ ovClear < 64 ∧ ovClear.testBit 0 = false ∧
      ¬ ∃ b, ovSet.testBit b = true ∧ ovClear.testBit b = true := by
  simp only [agreeMasksGood, Bool.and_eq_true, decide_eq_true_eq, Bool.not_eq_true', beq_iff_eq,
    and_eq_zero_iff_testBit]
  tauto

theorem FetchedCell.agreeRequest_eq_none_iff : c.agreeRequest = none ↔
    below 64 (c.operand 16 1) = none ∨
    agreeMasksGood (c.operand 17 1) (c.operand 18 1) (c.operand 19 1) (c.operand 20 1) = false ∨
    checkedWhen ((c.operand 17 1).testBit 0) (twoValued (c.operand 21 1)) = none ∨
    checkedWhen ((c.operand 17 1).testBit 5) (gridOf (c.operand 22 1)) = none := by
  unfold FetchedCell.agreeRequest
  simp only
  split
  case isTrue hgood =>
    split
    case h_1 h16 h21 h22 =>
      rw [hgood, h16, h21, h22]
      simp
    case h_2 hnone =>
      refine iff_of_true rfl ?_
      by_contra hall
      simp only [not_or, ← ne_eq, Option.ne_none_iff_exists'] at hall
      obtain ⟨⟨carrier, h16⟩, -, ⟨active, h21⟩, ⟨grid, h22⟩⟩ := hall
      exact hnone carrier active grid h16 h21 h22
  case isFalse hbad => simp [hbad]

/-- The request of good operands, byte by byte. -/
structure FetchedCell.Asks (c : FetchedCell) (q : AgreeRequest) : Prop where
  good : agreeMasksGood (c.operand 17 1) (c.operand 18 1) (c.operand 19 1) (c.operand 20 1) = true
  carrier : q.carrier.val = c.operand 16 1
  fieldMask : q.fieldMask = BitVec.ofNat 6 (c.operand 17 1)
  overrideSet : q.overrideSet = BitVec.ofNat 6 (c.operand 18 1)
  overrideClear : q.overrideClear = BitVec.ofNat 6 (c.operand 19 1)
  fixMask : q.fixMask = BitVec.ofNat 6 (c.operand 20 1)
  active : checkedWhen ((c.operand 17 1).testBit 0) (twoValued (c.operand 21 1)) = some q.active
  minSeconds : q.minSeconds = if (c.operand 17 1).testBit 1 then some (c.operand 24 2) else none
  increment : q.increment = if (c.operand 17 1).testBit 2 then some (c.operand 23 1) else none
  premium : q.premium = if (c.operand 17 1).testBit 3 then
    some (tabulate 4 (fun t => c.operand (26 + t) 1)) else none
  creditLimit : q.creditLimit = if (c.operand 17 1).testBit 4 then some (c.operand 32 6) else none
  grid : checkedWhen ((c.operand 17 1).testBit 5) (gridOf (c.operand 22 1)) = some q.grid

theorem FetchedCell.asks_of_agreeRequest (h : c.agreeRequest = some q) : c.Asks q := by
  unfold FetchedCell.agreeRequest at h
  simp only at h
  split at h
  case isTrue hgood =>
    split at h
    case h_1 carrier active grid h16 h21 h22 =>
      cases h
      exact ⟨hgood, (below_eq_some.mp h16).symm, rfl, rfl, rfl, rfl, h21, rfl, rfl, rfl, rfl, h22⟩
    case h_2 => cases h
  case isFalse => cases h

theorem FetchedCell.Asks.getLsbD (h : c.Asks q) {b : Nat} (hb : b < 6) :
    q.fieldMask.getLsbD b = (c.operand 17 1).testBit b := by
  rw [h.fieldMask, BitVec.getLsbD_ofNat, decide_eq_true hb, Bool.true_and]

/-! ## The refusals in order (R136) -/

theorem exec_agreeSet_of_inHand (h : s.InHand .agreeSet c) :
    exec .agreeSet s = .next (agreeSetRequest c s) := onRequest_of_inHand h agreeSetRequest

theorem AgreeRequest.namesNothing_iff : q.namesNothing = true ↔
    q.fieldMask = 0 ∧ q.overrideSet = 0 ∧ q.overrideClear = 0 ∧ q.fixMask = 0 := by
  simp [AgreeRequest.namesNothing, and_assoc]

theorem TermBits.zero_getLsbD (b : Nat) : (0 : TermBits).getLsbD b = false := BitVec.getLsbD_zero

theorem AgreeRequest.fixedTermsNamed_eq_zero_iff {a : Agreement} : q.fixedTermsNamed a = 0 ↔
    ∀ b, a.fixed.getLsbD b = true → q.fieldMask.getLsbD b = false
      ∧ q.overrideSet.getLsbD b = false ∧ q.overrideClear.getLsbD b = false := by
  have hbit (b : Nat) : (q.fixedTermsNamed a).getLsbD b = (((q.fieldMask.getLsbD b
      || q.overrideSet.getLsbD b) || q.overrideClear.getLsbD b) && a.fixed.getLsbD b) := by
    simp only [AgreeRequest.fixedTermsNamed, BitVec.getLsbD_and, BitVec.getLsbD_or]
  refine ⟨fun h b hfixed => ?_, fun h => BitVec.eq_of_getLsbD_eq fun b _ => ?_⟩
  · have hclear := hbit b
    rw [h, hfixed, TermBits.zero_getLsbD] at hclear
    simpa [and_assoc] using hclear.symm
  · rw [hbit, TermBits.zero_getLsbD]
    cases hfixed : a.fixed.getLsbD b with
    | false => exact Bool.and_false _
    | true =>
      obtain ⟨hfield, hset, hclear⟩ := h b hfixed
      rw [hfield, hset, hclear]
      rfl

/-- The freeze stands against the request when it is in force and a mask is not empty. -/
def State.Froze (s : State) (q : AgreeRequest) : Prop :=
  (s.agr.freezeInForce && !q.namesNothing) = true

theorem State.froze_of_named (hforce : s.agr.freezeInForce = true)
    (hnamed : q.fieldMask ≠ 0 ∨ q.overrideSet ≠ 0 ∨ q.overrideClear ≠ 0 ∨ q.fixMask ≠ 0) :
    s.Froze q := by
  have hnames : q.namesNothing = false := Bool.eq_false_iff.mpr fun h => by
    obtain ⟨hfield, hset, hclear, hfix⟩ := AgreeRequest.namesNothing_iff.mp h
    simp [hfield, hset, hclear, hfix] at hnamed
  rw [State.Froze, hforce, hnames]
  rfl

theorem State.not_froze (h : s.agr.freezeInForce = false ∨ (q.fieldMask = 0 ∧ q.overrideSet = 0 ∧
    q.overrideClear = 0 ∧ q.fixMask = 0)) : ¬ s.Froze q := by
  intro hfroze
  obtain ⟨hforce, hnames⟩ := (Bool.and_eq_true _ _).mp hfroze
  rcases h with hfree | hempty
  · rw [hfree] at hforce
    cases hforce
  · rw [AgreeRequest.namesNothing_iff.mpr hempty] at hnames
    cases hnames

theorem agreeSetRequest_of_none (h : c.agreeRequest = none) :
    agreeSetRequest c s = s.complete .badOperand [] := by
  rw [agreeSetRequest, h]

theorem agreeSetRequest_of_frozen (h : c.agreeRequest = some q) (hfroze : s.Froze q) :
    agreeSetRequest c s = s.complete .frozen
      [⟨64, 1, q.carrier⟩, ⟨65, 1, 2 * s.agr.freezePending.toNat + 4⟩] := by
  have hforce : s.agr.freezeInForce = true := ((Bool.and_eq_true _ _).mp hfroze).1
  have hflags : flags [false, s.agr.freezePending, s.agr.freezeInForce]
      = 2 * s.agr.freezePending.toNat + 4 := by
    rw [flags_three, hforce, Bool.toNat_false, Nat.zero_add]
    rfl
  rw [agreeSetRequest, h, ← hflags]
  exact if_pos hfroze

theorem agreeSetRequest_of_fixed (h : c.agreeRequest = some q) (hfree : ¬ s.Froze q)
    (hfixed : q.fixedTermsNamed (s.agreement q.carrier) ≠ 0) :
    agreeSetRequest c s = s.complete .fieldFixed
      [⟨64, 1, q.carrier⟩, ⟨67, 1, (s.agreement q.carrier).fixed.toNat⟩,
        ⟨78, 1, (q.fixedTermsNamed (s.agreement q.carrier)).toNat⟩] := by
  rw [agreeSetRequest, h]
  exact (if_neg hfree).trans (if_pos hfixed)

/-! ## The terms that are written (R137) -/

theorem State.agreeSet_eq (s : State) (q : AgreeRequest) : s.agreeSet q = { s with
    agr := { s.agr with agreements :=
      s.agr.agreements.set q.carrier (q.apply (s.agreement q.carrier)) },
    tau := { s.tau with
      lines := if (q.apply (s.agreement q.carrier)).grid = (s.agreement q.carrier).grid
        then s.tau.lines
        else s.tau.lines.filter (fun l =>
          !(l.tag.kind == .tariff && l.tag.index / 32 == q.carrier.val)) } } := by
  unfold State.agreeSet
  simp only
  split <;> rfl

theorem agreeSetRequest_of_good (h : c.agreeRequest = some q) (hfree : ¬ s.Froze q)
    (hopen : q.fixedTermsNamed (s.agreement q.carrier) = 0) {u : Agreement}
    (hu : q.apply (s.agreement q.carrier) = u) :
    agreeSetRequest c s = (s.agreeSet q).complete .ok
      [⟨64, 1, q.carrier⟩, ⟨65, 1, q.clamps.toNat + 2 * s.agr.freezePending.toNat
          + 4 * s.agr.freezeInForce.toNat⟩,
        ⟨66, 1, u.override.toNat⟩, ⟨67, 1, u.fixed.toNat⟩, ⟨68, 1, u.active.toNat⟩,
        ⟨69, 1, u.grid.code⟩, ⟨70, 1, u.increment⟩, ⟨72, 2, u.minSeconds⟩,
        ⟨74, 1, u.premium[0]⟩, ⟨75, 1, u.premium[1]⟩, ⟨76, 1, u.premium[2]⟩,
        ⟨77, 1, u.premium[3]⟩, ⟨80, 8, u.creditLimit⟩] := by
  have hwritten : (s.agreeSet q).agreement q.carrier = u := by
    rw [State.agreement_congr (State.agreeSet_agr s q), State.setAgreement_agreement, if_pos rfl, hu]
  rw [agreeSetRequest, h]
  refine (if_neg hfree).trans ((if_neg fun hne => hne hopen).trans ?_)
  simp only
  rw [hwritten, State.agreeSet_agr, flags_three]
  rfl

section Terms

theorem getD_of_named {α β : Type} (named : Bool) (x : α) (f : α → β) (old : β) :
    ((if named = true then some x else none).map f).getD old = if named = true then f x else old := by
  cases named <;> rfl

variable {a : Agreement}

theorem FetchedCell.Asks.clamps_iff (h : c.Asks q) : q.clamps = true ↔
    (q.fieldMask.getLsbD 1 = true ∧ 600 < c.operand 24 2)
      ∨ (q.fieldMask.getLsbD 2 = true ∧ (c.operand 23 1 < 1 ∨ 60 < c.operand 23 1))
      ∨ (q.fieldMask.getLsbD 3 = true ∧ ∃ k : Tier, c.operand (26 + k.val) 1 < 64) := by
  have hpremium : (tabulate 4 fun t => c.operand (26 + t) 1).toList.any (fun p => decide (p < 64))
      = true ↔ ∃ k : Tier, c.operand (26 + k.val) 1 < 64 := by
    rw [Vector.any_toList_iff]
    simp
  unfold AgreeRequest.clamps
  rw [h.minSeconds, h.increment, h.premium, h.getLsbD (by decide), h.getLsbD (by decide),
    h.getLsbD (by decide), ← hpremium]
  cases (c.operand 17 1).testBit 1 <;> cases (c.operand 17 1).testBit 2 <;>
    cases (c.operand 17 1).testBit 3 <;> simp [or_assoc]

/-- The named terms of an accepted request, clamped (R137). -/
theorem FetchedCell.Asks.apply (h : c.Asks q) (a : Agreement) :
    (q.apply a).active = (if q.fieldMask.getLsbD 0 = true then c.operand 21 1 == 1 else a.active) ∧
    (q.apply a).minSeconds
      = (if q.fieldMask.getLsbD 1 = true then min (c.operand 24 2) 600 else a.minSeconds) ∧
    (q.apply a).increment = (if q.fieldMask.getLsbD 2 = true then max 1 (min (c.operand 23 1) 60)
      else a.increment) ∧
    (∀ k : Tier, (q.apply a).premium[k] = if q.fieldMask.getLsbD 3 = true
      then max 64 (c.operand (26 + k.val) 1) else a.premium[k]) ∧
    (q.apply a).creditLimit
      = (if q.fieldMask.getLsbD 4 = true then c.operand 32 6 else a.creditLimit) ∧
    (q.apply a).grid.code = if q.fieldMask.getLsbD 5 = true then c.operand 22 1 else a.grid.code := by
  refine ⟨?_, ?_, ?_, fun k => ?_, ?_, ?_⟩
  all_goals rw [h.getLsbD (by decide)]
  · exact checkedWhen_getD (f := id) (fun _ hcode => twoValued_eq_some hcode) h.active a.active
  · rw [Nat.min_comm, AgreeRequest.apply, h.minSeconds]
    exact getD_of_named ..
  · rw [Nat.min_comm, AgreeRequest.apply, h.increment]
    exact getD_of_named ..
  · have hpremium : (q.apply a).premium = if (c.operand 17 1).testBit 3 = true then
        mapEntries (max 64) (tabulate 4 fun t => c.operand (26 + t) 1) else a.premium := by
      rw [AgreeRequest.apply, h.premium]
      exact getD_of_named ..
    rw [hpremium]
    split
    · simp
    · rfl
  · rw [AgreeRequest.apply, h.creditLimit]
    cases (c.operand 17 1).testBit 4 <;> rfl
  · exact checkedWhen_getD (fun _ hcode => gridOf_eq_some hcode) h.grid a.grid

end Terms

end AgreeSet

/-- Settles O40: the operand checks one by one, the refusals in their order, and the terms that an
accepted request names. -/
theorem agreeSetRefusesOrWritesNamedTerms : Obligations.AgreeSetRefusesOrWritesNamedTerms := by
  refine ⟨fun s c hcell => ⟨?_, fun hnone => ?_, fun q hq => ⟨?_, fun hforce hnamed => ?_,
    fun hfree hfixed => ?_⟩⟩, fun s c q a hcell hq ha hfree hopen => ?_⟩
  · rw [FetchedCell.agreeRequest_eq_none_iff, ← Bool.not_eq_true, agreeMasksGood_iff,
      below_eq_none, checkedWhen_eq_none_iff, checkedWhen_eq_none_iff, twoValued_eq_none_iff,
      gridOf_eq_none_iff]
    have hindex : 64 ≤ c.operand 16 1 ↔ 63 < c.operand 16 1 := Iff.rfl
    simp only [hindex, not_and_or, not_lt, not_not, Bool.not_eq_false, or_assoc]
  · rw [exec_agreeSet_of_inHand hcell, agreeSetRequest_of_none hnone]
  · have hasks := c.asks_of_agreeRequest hq
    exact ⟨hasks.carrier, hasks.fieldMask, hasks.overrideSet, hasks.overrideClear, hasks.fixMask⟩
  · rw [exec_agreeSet_of_inHand hcell,
      agreeSetRequest_of_frozen hq (State.froze_of_named hforce hnamed)]
  · have hne : q.fixedTermsNamed (s.agreement q.carrier) ≠ 0 := fun hzero => by
      obtain ⟨b, hbit, hnamed⟩ := hfixed
      obtain ⟨hfield, hset, hclear⟩ := AgreeRequest.fixedTermsNamed_eq_zero_iff.mp hzero b hbit
      simp [hfield, hset, hclear] at hnamed
    rw [exec_agreeSet_of_inHand hcell, agreeSetRequest_of_fixed hq (State.not_froze hfree) hne]
    rfl
  · subst ha
    have hasks := c.asks_of_agreeRequest hq
    obtain ⟨hactive, hseconds, hincrement, hpremium, hlimit, hgrid⟩ :=
      hasks.apply (s.agreement q.carrier)
    refine ⟨q.apply (s.agreement q.carrier), ?_, hactive, hseconds, hincrement, hpremium, hlimit, hgrid,
      rfl, rfl⟩
    have hclamps := Bool.mul_toNat_of_iff hasks.clamps_iff 1
    rw [Nat.one_mul] at hclamps
    rw [exec_agreeSet_of_inHand hcell, agreeSetRequest_of_good hq (State.not_froze hfree)
      (AgreeRequest.fixedTermsNamed_eq_zero_iff.mpr hopen) rfl, hclamps, State.agreeSet_eq]

end Sys2Proof.Machine
end
